-- ==== Sys2Proof/Word.lean ====
section
/-! DEFINITION. Words of the WK2564: octets, generations, counters, station addresses and point ids.
Only what the manual treats as bits is a bit vector; an address or a point id is an index. -/

namespace Sys2Proof

/-- One octet, on the line or on the SPI port (chapter 12). -/
abbrev Octet := BitVec 8

/-- A generation, 0 to 65535, wrapping from 65535 to 0 (R6). -/
abbrev Generation := BitVec 16

/-- A statistics counter: 16 bits (R69, R139, R168). -/
abbrev Counter := BitVec 16

/-- A station address, 0 to 31 (R101). -/
abbrev Addr := Fin 32

/-- A point id, 0 to 255 (R1). -/
abbrev PointId := Fin 256

end Sys2Proof
end

