-- ==== Sys2Proof/Config.lean ====
section
/-! DEFINITION. The figures the manual fixes for the part (00_scope.md, Principal figures) and the fixed octets of
the SPI port. The spec leaves no result undefined, so there is no opaque constant (no free value) here. -/

namespace Sys2Proof.Config

/-- Points HELD plus CLAIMING, per station (R25, R30). -/
def holdLimit : Nat := 64
/-- Points CLAIMING, per station (R25, R30). -/
def claimLimit : Nat := 4
/-- Requests on the control list (R156). -/
def controlCapacity : Nat := 16
/-- Ids on the publish list (R57). -/
def publishCapacity : Nat := 64
/-- Records of one PUBLISH frame, at most (R59). -/
def recordsPerPublish : Nat := 4
/-- Ids of one RECALL, at most (R74). -/
def idsPerRecall : Nat := 8
/-- Octets of a value, at most (R5). -/
def valueMax : Nat := 8
/-- Shortest frame: a header and a CRC (R131). -/
def frameMin : Nat := 6
/-- Longest frame (R131). -/
def frameMax : Nat := 55
/-- Waiting frames in the Receive FIFO (R140). -/
def fifoDepth : Nat := 4
/-- Transmit attempts per frame (R154). -/
def attemptLimit : Nat := 8
/-- Event records waiting, at most (R204). -/
def eventCapacity : Nat := 32
/-- Largest lost-event count, RX_OVERRUN count and missed-frame count (R207, R209, R121). -/
def countMax : Nat := 255
/-- Largest age and largest reported silence time, in milliseconds (R7, R188). -/
def ageMax : Nat := 65535
/-- Complete commands waiting, at most (R172). -/
def commandDepth : Nat := 2
/-- One unit of L in milliseconds (R197). -/
def leaseUnit : Nat := 50
/-- One unit of P in milliseconds (R102). -/
def periodUnit : Nat := 10

/-- The wait octet (R170). -/
def waitOctet : Octet := 0x00
/-- The answer marker (R170). -/
def answerMarker : Octet := 0xC3
/-- The fill octet (R170). -/
def fillOctet : Octet := 0xFF
/-- The destination of every kind except RECALL (R132). -/
def broadcast : Octet := 0xFF

end Sys2Proof.Config
end

