-- ==== Sys2Proof/Syntax.lean ====
section
/-! DEFINITION. The commands of the block: one constructor of `Instr` for each row of spec/opcode_table.json, and the
shapes of what travels on its two ports (the fifteen host commands, the seven line frames). -/

namespace Sys2Proof

/-- Segment size N: 4, 8, 16 or 32 (R102). -/
inductive SegmentSize
  | n4 | n8 | n16 | n32
deriving DecidableEq, Repr

/-- The fifteen host commands (R171). -/
inductive HostCommand
  | getStation | configure | join | leave | resume | clearCondition
  | readPoint | writePoint | claimPoint | releasePoint | recallPoint
  | subscribe | unsubscribe | readEvent | readPeer
deriving DecidableEq, Repr

/-- The seven frame kinds (R132). -/
inductive FrameKind
  | presence | publish | claim | assert | release | recall | farewell
deriving DecidableEq, Repr

/-- The station state a PRESENCE frame announces (R112). -/
inductive PresenceState
  | active | detached
deriving DecidableEq, Repr

/-- One record of a PUBLISH frame: its length is the number of its value octets (R132). -/
structure PublishRecord where
  point : PointId
  generation : Generation
  octets : List Octet
deriving DecidableEq, Repr

/-- The body of a frame by kind (R132). The destination is carried by RECALL alone; it is 0xFF for every other kind. -/
inductive Body
  | presence (state : PresenceState) (freshStart : Bool) (held : Nat) (n : SegmentSize) (pUnits : Octet)
  | publish (records : List PublishRecord)
  | claim (point : PointId)
  | assert (point : PointId) (length : Octet)
  | release (point : PointId)
  | recall (destination : Addr) (points : List PointId)
  | farewell
deriving DecidableEq, Repr

/-- A frame: source, sequence and body; the kind is the body's (R132). -/
structure Frame where
  source : Addr
  sequence : Octet
  body : Body
deriving DecidableEq, Repr

/-- The steps of the part: one constructor for each row of spec/opcode_table.json.
The rows that take a host command act on the command in hand (R172) and the rows that take an item of a received frame
act on the frame being applied (R142): their operands are in those queues of the state (log entry 9). -/
inductive Instr
  /-- RESET: power-on, or RESETn asserted. -/
  | reset
  /-- RESET_RELEASE: RESETn released, with the levels of ADDR4..0 and RATE1..0 at that moment. -/
  | resetRelease (address : BitVec 5) (rate : BitVec 2)
  /-- CSN_FALL: CSn falls. -/
  | csnFall
  /-- CSN_RISE: CSn rises. -/
  | csnRise
  /-- COMMAND_COMPLETE: the last announced octet of a command arrives on MOSI. -/
  | commandComplete (mosi : Octet)
  /-- GET_STATION. -/
  | getStation
  /-- CONFIGURE. -/
  | configure
  /-- JOIN. -/
  | join
  /-- LEAVE. -/
  | leave
  /-- RESUME. -/
  | resume
  /-- CLEAR_CONDITION. -/
  | clearCondition
  /-- READ_POINT. -/
  | readPoint
  /-- WRITE_POINT. -/
  | writePoint
  /-- CLAIM_POINT. -/
  | claimPoint
  /-- RELEASE_POINT. -/
  | releasePoint
  /-- RECALL_POINT. -/
  | recallPoint
  /-- SUBSCRIBE. -/
  | subscribe
  /-- UNSUBSCRIBE. -/
  | unsubscribe
  /-- READ_EVENT. -/
  | readEvent
  /-- READ_PEER. -/
  | readPeer
  /-- LINE_IDLE_AFTER_SEEKING: the line has been high for 2 ct after JOIN. -/
  | lineIdleAfterSeeking
  /-- FRAME_END: the line has been idle for 2 ct after a received frame. -/
  | frameEnd
  /-- FRAME_ENDED_WITHOUT_COLLISION: the station's own frame has been read back whole and has ended. -/
  | frameEndedWithoutCollision
  /-- COLLISION: a character read back differs from the one sent. -/
  | collision
  /-- URGENT_SLOT: an urgent slot begins on the running ladder. -/
  | urgentSlot
  /-- RANKED_SLOT: this station's ranked slot begins on the running ladder. -/
  | rankedSlot
  /-- FRAME_PROCESSOR_TAKES_FRAME. -/
  | frameProcessorTakesFrame
  /-- ROSTER_FRAME_ITEM: the roster item of the frame being applied. -/
  | rosterFrameItem
  /-- PUBLISH_RECORD: the next record of the PUBLISH frame being applied. -/
  | publishRecord
  /-- CLAIM_HEARD: the table item of the CLAIM frame being applied. -/
  | claimHeard
  /-- ASSERT_HEARD: the table item of the ASSERT frame being applied. -/
  | assertHeard
  /-- RELEASE_HEARD: the table item of the RELEASE frame being applied. -/
  | releaseHeard
  /-- RECALL_HEARD: the table item of the RECALL frame being applied. -/
  | recallHeard
  /-- CLAIM_WINDOW_EXPIRY: the claim window of a point reaches P. -/
  | claimWindowExpiry (point : PointId)
  /-- REFRESH_TIMER_EXPIRY: the refresh timer of a point reaches P. -/
  | refreshTimerExpiry (point : PointId)
  /-- STALE_TIMER_EXPIRY: the stale timer of a point reaches 3P. -/
  | staleTimerExpiry (point : PointId)
  /-- CONTENDER_TIMER_EXPIRY: the contender timer of a point reaches 3P. -/
  | contenderTimerExpiry (point : PointId)
  /-- LISTEN_TIMER_EXPIRY: the listen timer reaches 3P. -/
  | listenTimerExpiry
  /-- PRESENCE_TIMER_EXPIRY: the presence timer reaches P. -/
  | presenceTimerExpiry
  /-- LEASE_EXPIRY: the host lease timer reaches L x 50 ms. -/
  | leaseExpiry
  /-- SILENCE_TIMER_2P: the silence timer of a peer reaches 2P. -/
  | silenceTimer2P (peer : Addr)
  /-- SILENCE_TIMER_5P: the silence timer of a peer reaches 5P. -/
  | silenceTimer5P (peer : Addr)
  /-- START_BIT: a start bit from another station on the line. -/
  | startBit
  /-- CHARACTER_RECEIVED: the stop bit of a character is sampled, high or low. -/
  | characterReceived (octet : Octet) (stopHigh : Bool)
  /-- SPI_OCTET_CLOCKED: eight SCK cycles complete an octet with CSn low; `mosi` is the octet received. -/
  | spiOctetClocked (mosi : Octet)
  /-- UNKNOWN_COMMAND: the command in hand names none of the fifteen commands. -/
  | unknownCommand
deriving DecidableEq, Repr

end Sys2Proof
end

