-- ==== Sys2Proof/WellFormed.lean ====
section
/-! DEFINITION. Well-formed frames (the content rules of R132 and R135) and well-formed commands. -/

namespace Sys2Proof

/-- The number N stands for (R102). -/
def SegmentSize.toNat : SegmentSize → Nat
  | .n4 => 4
  | .n8 => 8
  | .n16 => 16
  | .n32 => 32

/-- A period in 10 ms units within 2 to 200 (R103, R135). -/
def periodOk (pUnits : Octet) : Bool := 2 ≤ pUnits.toNat && pUnits.toNat ≤ 200

/-- A value of 1 to 8 octets (R5). -/
def PublishRecord.wf (r : PublishRecord) : Bool := 1 ≤ r.octets.length && r.octets.length ≤ Config.valueMax

/-- The body fits its kind on a segment of size `n` (R132, R135). The length of an ASSERT is not judged (R132). -/
def Body.wf (n : SegmentSize) : Body → Bool
  | .presence _ _ held _ pUnits => held ≤ Config.holdLimit && periodOk pUnits
  | .publish records =>
      1 ≤ records.length && records.length ≤ Config.recordsPerPublish && records.all PublishRecord.wf
  | .recall destination points =>
      destination.val < n.toNat && 1 ≤ points.length && points.length ≤ Config.idsPerRecall
  | .claim _ | .assert _ _ | .release _ | .farewell => true

/-- A frame that the Frame Checker of a station with segment size `n` does not count as invalid (R135). -/
def Frame.wf (n : SegmentSize) (f : Frame) : Bool := f.source.val < n.toNat && f.body.wf n

/-- Every command is well formed: its operand types (5-bit and 2-bit strap levels, octets, point ids 0 to 255, station
addresses 0 to 31) hold exactly the values the spec admits. What an octet on the SPI port or on the line may say is
judged by the meanings (R135, R175). -/
def Instr.wf : Instr → Bool
  | .reset | .resetRelease _ _ | .csnFall | .csnRise | .commandComplete _ | .getStation | .configure | .join
  | .leave | .resume | .clearCondition | .readPoint | .writePoint | .claimPoint | .releasePoint | .recallPoint
  | .subscribe | .unsubscribe | .readEvent | .readPeer | .lineIdleAfterSeeking | .frameEnd
  | .frameEndedWithoutCollision | .collision | .urgentSlot | .rankedSlot | .frameProcessorTakesFrame
  | .rosterFrameItem | .publishRecord | .claimHeard | .assertHeard | .releaseHeard | .recallHeard
  | .claimWindowExpiry _ | .refreshTimerExpiry _ | .staleTimerExpiry _ | .contenderTimerExpiry _
  | .listenTimerExpiry | .presenceTimerExpiry | .leaseExpiry | .silenceTimer2P _ | .silenceTimer5P _
  | .startBit | .characterReceived _ _ | .spiOctetClocked _ | .unknownCommand => true

end Sys2Proof
end

