-- ==== Sys2Proof/Decode.lean ====
section
/-! DEFINITION. The words of the opcode table. No row of spec/opcode_table.json has bits, so no word spells a command.
The octets of frames and of host commands are read in Machine/Frames.lean and Machine/Operands.lean. -/

namespace Sys2Proof

/-- No row of the table gives bits: no word spells a command (log entry 8). -/
def decodeTableWord (_nbits _w : Nat) : Option Instr := none

end Sys2Proof
end

