-- ==== Sys2Proof/Machine/State.lean ====
section
/-! DEFINITION. The state of one WK2564: every register, list, queue, counter, timer and mode the spec names, as plain
data, and the queue of commands that wait. A timer is an optional number of elapsed milliseconds; absent is stopped
(log entry 25). -/

namespace Sys2Proof.Machine

/-! ### Pins, straps and configuration -/

/-- Input levels the part remembers, and the octet on MISO (R101, R170, R190). -/
structure Pins where
  csnHigh : Bool := true
  inReset : Bool := false
  /-- The octet being presented on MISO; absent is high impedance. -/
  miso : Option Octet := none
deriving DecidableEq, Repr

/-- The straps as sampled at the release of reset (R101). -/
structure Straps where
  own : Addr := 0
  rate : BitVec 2 := 0
deriving DecidableEq, Repr

/-- The Host Port's policy on exception answers (R191). -/
inductive Discipline
  | strict | lenient
deriving DecidableEq, Repr

/-- The configuration in force (R102). -/
structure Configuration where
  n : SegmentSize := .n32
  pUnits : Octet := 10
  lease : Octet := 0
  discipline : Discipline := .strict
deriving DecidableEq, Repr

/-! ### Station Controller -/

/-- The six station states (chapter 5). -/
inductive StationState
  | offline | listening | active | detached | leaving | clashed
deriving DecidableEq, Repr

/-- The cause of a change of station state (R105). -/
inductive Cause
  | host | listenDone | lease | discipline | clash | leaveDone
deriving DecidableEq, Repr

/-- The Station Controller's state (R102 to R113, R197). -/
structure Controller where
  state : StationState := .offline
  cause : Option Cause := none
  config : Configuration := {}
  locked : Bool := false
  listenTimer : Option Nat := none
  presenceTimer : Option Nat := none
  leaseTimer : Option Nat := none
  freshStart : Bool := false
deriving DecidableEq, Repr

/-! ### Point Table -/

/-- The six point states (section 1.2). -/
inductive PointState
  | vacant | claiming | held | mirror | stale | disputed
deriving DecidableEq, Repr

/-- Where a claim stands (R9). -/
inductive ClaimPhase
  | requested | sending | window
deriving DecidableEq, Repr

/-- A value with the generation that came with it: present together or absent together (R6). -/
structure Value where
  octets : List Octet
  generation : Generation
deriving DecidableEq, Repr

/-- A station's record of one point (R1). -/
structure PointRecord where
  state : PointState := .vacant
  owner : Option Addr := none
  claimant : Option Addr := none
  contender : Option Addr := none
  length : Option Nat := none
  value : Option Value := none
  age : Option Nat := none
  phase : Option ClaimPhase := none
  subscribed : Bool := false
  claimWindow : Option Nat := none
  refreshTimer : Option Nat := none
  staleTimer : Option Nat := none
  contenderTimer : Option Nat := none
deriving DecidableEq, Repr

/-! ### Transmit Scheduler -/

/-- A request of the control list (R156). -/
inductive Request
  | claim (point : PointId)
  | assert (point : PointId)
  | release (point : PointId)
  | recall (destination : Addr) (points : List PointId)
  | presence
  | farewell
deriving DecidableEq, Repr

/-- Where the built frame is: in flight since the slot of that number began, waiting as the retry frame with its urgent
mark, or cut off on entry to CLASHED (R150, R151, R153). -/
inductive Place
  | inFlight (slot : Nat)
  | retry (urgent : Bool)
  | cutOff
deriving DecidableEq, Repr

/-- The one built frame (R153): its attempts so far, whether its work was withdrawn while it was in flight, and how many
of its characters have been read back as sent (R150). -/
structure BuiltFrame where
  frame : Frame
  attempts : Nat := 0
  place : Place
  withdrawn : Bool := false
  readBack : Nat := 0
deriving DecidableEq, Repr

/-- The Transmit Scheduler's state (chapter 7). -/
structure Scheduler where
  control : List Request := []
  publish : List PointId := []
  frame : Option BuiltFrame := none
  sequence : Octet := 0
deriving DecidableEq, Repr

/-! ### Line Interface, Access Controller, reception -/

/-- The six reception states (R131); DISCARDING remembers whether it follows an abort of the own frame. -/
inductive LineState
  | off | seeking | idle | inFrame | discarding (afterAbort : Bool) | sending
deriving DecidableEq, Repr

/-- A running ladder (R147): the round that runs, the number of the first slot not yet begun in it, and the first round
whose slots the Access Controller offers, which is the next one for a station that becomes ACTIVE on an idle line (R109). -/
structure Ladder where
  round : Nat := 0
  next : Nat := 0
  offeredFrom : Nat := 0
deriving DecidableEq, Repr

/-- The Line Interface and the Access Controller (R130, R131, R146, R147), with the ladder while it runs. -/
structure Line where
  state : LineState := .off
  octets : List Octet := []
  gap : Option Nat := none
  lastSource : Addr := 31
  ladder : Option Ladder := none
deriving DecidableEq, Repr

/-- An item of a received frame (R142). -/
inductive FrameItem
  | roster
  | record (record : PublishRecord)
  | claim (point : PointId)
  | assert (point : PointId) (length : Octet)
  | release (point : PointId)
  | recall (points : List PointId)
deriving DecidableEq, Repr

/-- The frame being applied and its items not yet taken (R142). -/
structure Applying where
  frame : Frame
  items : List FrameItem
deriving DecidableEq, Repr

/-- The Receive FIFO, oldest first, and the Frame Processor (R140, R142). -/
structure Receiver where
  fifo : List Frame := []
  applying : Option Applying := none
deriving DecidableEq, Repr

/-- The nine statistics counters (R69, R139, R168). -/
structure Counters where
  framingErrors : Counter := 0
  crcErrors : Counter := 0
  invalidFrames : Counter := 0
  duplicates : Counter := 0
  overruns : Counter := 0
  collisions : Counter := 0
  txDropped : Counter := 0
  recordsOld : Counter := 0
  recordsRejected : Counter := 0
deriving DecidableEq, Repr

/-! ### Peer Roster -/

/-- The four states of a roster entry (R121). -/
inductive PeerState
  | absent | present | silent | gone
deriving DecidableEq, Repr

/-- What a peer's PRESENCE announces: present together or absent together (R121). -/
structure Announced where
  held : Nat
  n : SegmentSize
  pUnits : Octet
deriving DecidableEq, Repr

/-- One roster entry (R121). -/
structure PeerEntry where
  state : PeerState := .absent
  detached : Bool := false
  mismatch : Bool := false
  announced : Option Announced := none
  lastSeq : Option Octet := none
  missed : Nat := 0
  silence : Option Nat := none
deriving DecidableEq, Repr

/-! ### Host Port -/

/-- The statuses of an answer (R176). -/
inductive Status
  | ok | empty | badState | notHolder | badPoint | badLength | limit | listFull | badConfig | configLocked
  | conditionPending | unknownCommand | badAddress
deriving DecidableEq, Repr

/-- The condition record (R192). -/
structure Condition where
  status : Status
  command : Octet
  subject : Option Octet
deriving DecidableEq, Repr

/-- A command as far as it has been received (R171): `received` counts the parameter octets, kept or not. -/
structure Receiving where
  code : Option Octet := none
  count : Option Octet := none
  kept : List Octet := []
  received : Nat := 0
deriving DecidableEq, Repr

/-- The states of a transaction (R173). ANSWERING holds the octets of the answer not yet presented. -/
inductive Port
  | idle
  | receiving (command : Receiving)
  | waiting
  | answering (rest : List Octet)
  | finished
  | ignoring
deriving DecidableEq, Repr

/-- A complete command in the command queue (R172). The transaction that carried it is the one now WAITING when `live`,
and has ended otherwise (log entry 10). -/
structure QueuedCommand where
  code : Octet
  count : Octet
  params : List Octet
  live : Bool
deriving DecidableEq, Repr

/-- The groups of fields of a GET STATION answer, in the order in which they are read (R178). -/
inductive StationGroup
  | station | straps | configuration | table | transmit | host | counters
deriving DecidableEq, Repr

/-- The fields of a GET STATION answer, in the groups of R178. -/
structure StationReport where
  state : StationState := .offline
  cause : Option Cause := none
  straps : Straps := {}
  config : Configuration := {}
  locked : Bool := false
  held : Nat := 0
  claiming : Nat := 0
  published : Nat := 0
  requests : Nat := 0
  events : Nat := 0
  lost : Nat := 0
  conditionPending : Bool := false
  counters : Counters := {}
deriving DecidableEq, Repr

/-- A GET STATION that is being read: how many groups have been read, and what they showed (R178). -/
structure StationReading where
  groups : Nat := 0
  report : StationReport := {}
deriving DecidableEq, Repr

/-- The Host Port's state (chapters 8 and 9). `reading` is the answer of the GET STATION in hand as far as it is read. -/
structure HostPort where
  port : Port := .idle
  queue : List QueuedCommand := []
  reading : StationReading := {}
  condition : Option Condition := none
deriving DecidableEq, Repr

/-! ### Event Queue -/

/-- Causes of CLAIM_LOST (R205). -/
inductive ClaimLoss
  | contended | asserted | published | txFailed | detached
deriving DecidableEq, Repr

/-- Causes of OWNERSHIP_LOST (R205). -/
inductive OwnershipLoss
  | lowerAddress | yieldedDetached
deriving DecidableEq, Repr

/-- Causes of PEER_GONE (R205). -/
inductive GoneCause
  | timeout | farewell
deriving DecidableEq, Repr

/-- The event records (R205). -/
inductive Event
  | pointChanged (point : PointId) (generation : Generation)
  | pointStale (point : PointId) (owner : Addr)
  | ownerChanged (point : PointId) (old new : Option Addr)
  | disputeSeen (point : PointId) (owner contender : Addr)
  | claimWon (point : PointId)
  | claimLost (point : PointId) (cause : ClaimLoss) (winner : Option Addr)
  | ownershipLost (point : PointId) (cause : OwnershipLoss) (newOwner : Option Addr)
  | peerJoined (peer : Addr)
  | peerReturned (peer : Addr)
  | peerRestarted (peer : Addr)
  | peerSilent (peer : Addr)
  | peerDetached (peer : Addr)
  | peerResumed (peer : Addr)
  | peerGone (peer : Addr) (cause : GoneCause)
  | peerMismatch (peer : Addr) (n : SegmentSize) (pUnits : Octet)
  | stationState (state : StationState) (cause : Option Cause)
  | rxOverrun (count : Nat)
  | txDropped (kind : FrameKind) (point : Option PointId)
  | eventsLost (count : Nat)
deriving DecidableEq, Repr

/-- The Event Queue: the records waiting, oldest first, and the lost-event count (R204, R207). -/
structure EventQueue where
  records : List Event := []
  lost : Nat := 0
deriving DecidableEq, Repr

/-! ### The whole machine -/

/-- The state of the part, and what its sender has queued: the commands that wait, the breaks between reads, and the order
of a clash and the slot that begins at the same moment. -/
structure State where
  pins : Pins
  straps : Straps
  ctrl : Controller
  points : Vector PointRecord 256
  heldCount : Nat
  claimingCount : Nat
  counters : Counters
  tx : Scheduler
  line : Line
  rx : Receiver
  roster : Vector PeerEntry 32
  host : HostPort
  events : EventQueue
  /-- The commands that wait, first in first out: the model's own field. -/
  pending : List Instr
  /-- Where the reads of GET STATION are broken off to let other items in between: for each GET_STATION command to come the
  last group it reads, and all of them when there is none. The model's own field, the sender's like `pending`
  (R178, log entry 13). -/
  breaks : List StationGroup
  /-- For each clash to come, whether slot 0 of the new ladder, which begins at the same frame end, is taken before it; it is
  not when there is no entry. The model's own field, the sender's like `pending` (R120, R147, log entry 17). -/
  slotFirst : List Bool
deriving DecidableEq, Repr

/-- The part has no fault: no rule of the spec stops it (log entry 22). -/
inductive Fault
deriving DecidableEq, Repr

/-- Reasons to refuse a command. -/
inductive Refusal
  /-- Raised by `exec` alone, for a row of the opcode table that has no meaning yet; safe. No row is without one. -/
  | notModelled (mnemonic : String)
deriving DecidableEq, Repr

/-- The part right after reset: OFFLINE, every record VACANT, every list empty (R28, R54, R78, R105, R145, R169, R190,
R203, R214). The straps' sampled levels and the level of CSn are DESIGN CHOICE values (log entries 5 and 6). -/
def State.reset : State where
  pins := {}
  straps := {}
  ctrl := {}
  points := Vector.replicate 256 {}
  heldCount := 0
  claimingCount := 0
  counters := {}
  tx := {}
  line := {}
  rx := {}
  roster := Vector.replicate 32 {}
  host := {}
  events := {}
  pending := []
  breaks := []
  slotFirst := []

end Sys2Proof.Machine
end

