-- ==== Sys2Proof/Machine/Frames.lean ====
section
/-! DEFINITION. The octets of line frames: the CRC, the layout of every kind, building a frame's octets and reading them
back (R132 to R135, R216). -/

namespace Sys2Proof

/-! ### Octets of wider quantities -/

/-- The high octet of a two-octet quantity (chapter 12: high octet first). -/
def hiOctet (w : BitVec 16) : Octet := w.extractLsb' 8 8

/-- The low octet of a two-octet quantity. -/
def loOctet (w : BitVec 16) : Octet := w.extractLsb' 0 8

/-- A two-octet quantity from its high and low octet. -/
def joinOctets (hi lo : Octet) : BitVec 16 := hi ++ lo

/-- A two-octet quantity as it is sent (chapter 12). -/
def octets16 (w : BitVec 16) : List Octet := [hiOctet w, loOctet w]

/-- A number of at most 255 as an octet. -/
def octetOf (n : Nat) : Octet := BitVec.ofNat 8 n

/-- A point id as an octet: every value names a point (R132). -/
def pointOctet (p : PointId) : Octet := BitVec.ofFin p

/-- The point an octet names (R132). -/
def octetPoint (o : Octet) : PointId := o.toFin

/-- A station address as an octet. -/
def addrOctet (a : Addr) : Octet := octetOf a.val

/-- The station address below `n` that an octet gives, if it gives one (R132, R135). -/
def octetAddr (n : SegmentSize) (o : Octet) : Option Addr :=
  if o.toNat < n.toNat then some (Fin.ofNat 32 o.toNat) else none

/-- The segment size as an octet (R132). -/
def SegmentSize.octet (n : SegmentSize) : Octet := octetOf n.toNat

/-- The segment size an octet gives: 4, 8, 16 or 32 (R103, R135). -/
def octetSegment (o : Octet) : Option SegmentSize :=
  if o = 4 then some .n4 else if o = 8 then some .n8 else if o = 16 then some .n16 else if o = 32 then some .n32
  else none

/-! ### CRC -/

/-- One bit of the CRC register's division by x^16 + x^12 + x^5 + 1 (R133). -/
def crcShift (r : BitVec 16) : BitVec 16 := if r.msb then (r <<< 1) ^^^ 0x1021 else r <<< 1

/-- One octet entered into the CRC register, most significant bit first (R133). -/
def crcOctet (r : BitVec 16) (o : Octet) : BitVec 16 :=
  Nat.repeat crcShift 8 (r ^^^ (joinOctets o 0))

/-- The CRC over octets, from the register value 0xFFFF (R133). -/
def crcOf (octets : List Octet) : BitVec 16 := octets.foldl crcOctet 0xFFFF

/-- The last two octets are the CRC of those before them, high octet first (R133). -/
def crcMatches (octets : List Octet) : Bool :=
  octets.drop (octets.length - 2) == octets16 (crcOf (octets.take (octets.length - 2)))

/-! ### Kinds -/

/-- The kind code (R216). -/
def FrameKind.code : FrameKind → Octet
  | .presence => 0x51
  | .publish => 0x52
  | .claim => 0x53
  | .assert => 0x54
  | .release => 0x55
  | .recall => 0x56
  | .farewell => 0x57

/-- The kind of a body (R132). -/
def Body.kind : Body → FrameKind
  | .presence .. => .presence
  | .publish _ => .publish
  | .claim _ => .claim
  | .assert _ _ => .assert
  | .release _ => .release
  | .recall _ _ => .recall
  | .farewell => .farewell

/-- The point that TX_DROPPED names for a frame: of a CLAIM, ASSERT or RELEASE (R154). -/
def Body.point? : Body → Option PointId
  | .claim p | .assert p _ | .release p => some p
  | .presence .. | .publish _ | .recall _ _ | .farewell => none

/-! ### Building octets -/

/-- The PRESENCE state octet (R216). -/
def PresenceState.octet : PresenceState → Octet
  | .active => 0x02
  | .detached => 0x03

/-- A record of a PUBLISH frame (R216). -/
def PublishRecord.encode (r : PublishRecord) : List Octet :=
  pointOctet r.point :: hiOctet r.generation :: loOctet r.generation :: octetOf r.octets.length :: r.octets

/-- The destination octet: 0xFF, or the owner addressed by a RECALL (R132). -/
def Body.destination : Body → Octet
  | .recall destination _ => addrOctet destination
  | .presence .. | .publish _ | .claim _ | .assert _ _ | .release _ | .farewell => Config.broadcast

/-- The body octets (R216). -/
def Body.encode : Body → List Octet
  | .presence st fresh held n pUnits =>
      [st.octet, if fresh then 1 else 0, octetOf held, n.octet, pUnits]
  | .publish records => octetOf records.length :: records.flatMap PublishRecord.encode
  | .claim p | .release p => [pointOctet p]
  | .assert p length => [pointOctet p, length]
  | .recall _ points => octetOf points.length :: points.map pointOctet
  | .farewell => []

/-- Header and body: the octets that the CRC covers (R133, R216). -/
def Frame.covered (f : Frame) : List Octet :=
  f.body.kind.code :: addrOctet f.source :: f.body.destination :: f.sequence :: f.body.encode

/-- The octets of a frame as they go on the line (R216). -/
def Frame.encode (f : Frame) : List Octet := f.covered ++ octets16 (crcOf f.covered)

/-! ### Reading octets -/

/-- The state a PRESENCE state octet gives (R216); any other value is invalid (R135). -/
def octetPresence (o : Octet) : Option PresenceState :=
  if o = 0x02 then some .active else if o = 0x03 then some .detached else none

/-- Exactly `k` records that fill the octets given (R132, R135). -/
def readRecords : Nat → List Octet → Option (List PublishRecord)
  | 0, [] => some []
  | 0, _ :: _ => none
  | k + 1, p :: gh :: gl :: len :: rest =>
      if 1 ≤ len.toNat ∧ len.toNat ≤ Config.valueMax ∧ len.toNat ≤ rest.length then
        (readRecords k (rest.drop len.toNat)).map
          ({ point := octetPoint p, generation := joinOctets gh gl, octets := rest.take len.toNat } :: ·)
      else none
  | _ + 1, _ => none

/-- A body of the kind coded, on a segment of size `n`, with the destination the header gives (R132, R135). -/
def readBody (n : SegmentSize) (kind destination : Octet) (body : List Octet) : Option Body :=
  if kind = FrameKind.recall.code then
    match octetAddr n destination, body with
    | some d, count :: ids =>
        if 1 ≤ count.toNat ∧ count.toNat ≤ Config.idsPerRecall ∧ ids.length = count.toNat then
          some (.recall d (ids.map octetPoint))
        else none
    | _, _ => none
  else if destination ≠ Config.broadcast then none
  else if kind = FrameKind.presence.code then
    match body with
    | [st, flags, held, size, pUnits] =>
        match octetPresence st, octetSegment size with
        | some st, some size =>
            if held.toNat ≤ Config.holdLimit ∧ periodOk pUnits then
              some (.presence st (flags.getLsbD 0) held.toNat size pUnits)
            else none
        | _, _ => none
    | _ => none
  else if kind = FrameKind.publish.code then
    match body with
    | count :: rest =>
        if 1 ≤ count.toNat ∧ count.toNat ≤ Config.recordsPerPublish then
          (readRecords count.toNat rest).map .publish
        else none
    | [] => none
  else if kind = FrameKind.claim.code then
    match body with
    | [p] => some (.claim (octetPoint p))
    | _ => none
  else if kind = FrameKind.assert.code then
    match body with
    | [p, length] => some (.assert (octetPoint p) length)
    | _ => none
  else if kind = FrameKind.release.code then
    match body with
    | [p] => some (.release (octetPoint p))
    | _ => none
  else if kind = FrameKind.farewell.code then
    match body with
    | [] => some .farewell
    | _ :: _ => none
  else none

/-- The frame that octets with a good CRC give on a segment of size `n`; none when the content does not fit (R135). -/
def readFrame (n : SegmentSize) (octets : List Octet) : Option Frame :=
  match octets.take (octets.length - 2) with
  | kind :: source :: destination :: seq :: body =>
      match octetAddr n source, readBody n kind destination body with
      | some src, some b => some { source := src, sequence := seq, body := b }
      | _, _ => none
  | _ => none

/-- The items the Frame Processor hands over for a frame, in order, at the station `own` (R142). -/
def Frame.items (own : Addr) (f : Frame) : List Machine.FrameItem :=
  match f.body with
  | .presence .. | .farewell => [.roster]
  | .publish records => .roster :: records.map .record
  | .claim p => [.roster, .claim p]
  | .assert p length => [.roster, .assert p length]
  | .release p => [.roster, .release p]
  | .recall destination points => if destination = own then [.roster, .recall points] else [.roster]

end Sys2Proof
end

