-- ==== Sys2Proof/Machine/Operands.lean ====
section
/-! DEFINITION. What commands and frames name: the host command codes and parameter forms, the serial comparison of
generations, the figures that follow from N, P and L, and the timers. -/

namespace Sys2Proof

/-! ### Host command codes and parameter forms -/

/-- The command octet (R217). -/
def HostCommand.code : HostCommand → Octet
  | .getStation => 0x01
  | .configure => 0x02
  | .join => 0x03
  | .leave => 0x04
  | .resume => 0x05
  | .clearCondition => 0x06
  | .readPoint => 0x10
  | .writePoint => 0x11
  | .claimPoint => 0x12
  | .releasePoint => 0x13
  | .recallPoint => 0x14
  | .subscribe => 0x15
  | .unsubscribe => 0x16
  | .readEvent => 0x20
  | .readPeer => 0x21

/-- The fifteen commands (R171). -/
def HostCommand.all : List HostCommand :=
  [.getStation, .configure, .join, .leave, .resume, .clearCondition, .readPoint, .writePoint, .claimPoint,
   .releasePoint, .recallPoint, .subscribe, .unsubscribe, .readEvent, .readPeer]

/-- The command a command octet names (R217). -/
def HostCommand.ofCode (o : Octet) : Option HostCommand := HostCommand.all.find? (·.code = o)

/-- The fewest parameter octets a command admits (R171). -/
def HostCommand.minParams : HostCommand → Nat
  | .getStation | .join | .leave | .resume | .clearCondition | .readEvent => 0
  | .configure => 5
  | .readPoint | .releasePoint | .recallPoint | .readPeer | .writePoint => 1
  | .claimPoint => 2
  | .subscribe | .unsubscribe => 3

/-- The most parameter octets a command admits (R171). -/
def HostCommand.maxParams : HostCommand → Nat
  | .writePoint => 9
  | .claimPoint => 10
  | c => c.minParams

/-- The parameter counts a command admits (R171). -/
def HostCommand.admitsCount (c : HostCommand) (count : Octet) : Bool :=
  c.minParams ≤ count.toNat && count.toNat ≤ c.maxParams

/-- How many parameter octets are kept for a command octet: as many as its form admits, and none for an octet that names
no command (R171, log entry 12). -/
def keptParams (code : Octet) : Nat :=
  match HostCommand.ofCode code with
  | some c => c.maxParams
  | none => 0

/-- The commands whose first parameter a condition record keeps (R192). -/
def HostCommand.namesSubject : HostCommand → Bool
  | .readPoint | .writePoint | .claimPoint | .releasePoint | .recallPoint | .subscribe | .unsubscribe | .readPeer =>
      true
  | .getStation | .configure | .join | .leave | .resume | .clearCondition | .readEvent => false

/-- The three commands taken while a condition record is pending (R193). -/
def HostCommand.takenWhilePending : HostCommand → Bool
  | .getStation | .clearCondition | .resume => true
  | .configure | .join | .leave | .readPoint | .writePoint | .claimPoint | .releasePoint | .recallPoint
  | .subscribe | .unsubscribe | .readEvent | .readPeer => false

/-- The stations states that admit a command (R177). -/
def HostCommand.admittedIn : HostCommand → Machine.StationState → Bool
  | .getStation, _ | .clearCondition, _ | .readPoint, _ | .readEvent, _ | .readPeer, _ => true
  | .configure, s | .join, s => s = .offline
  | .leave, s => s = .listening || s = .active || s = .detached || s = .clashed
  | .resume, s => s = .detached
  | .writePoint, s | .claimPoint, s | .recallPoint, s => s = .active
  | .releasePoint, s => s = .active || s = .detached
  | .subscribe, s | .unsubscribe, s => s = .offline || s = .listening || s = .active || s = .detached

/-! ### Serial comparison -/

/-- Newer: the difference lies in 1 to 32767 (Conventions, R65). -/
def newerThan (g' g : Generation) : Bool := 1 ≤ (g' - g).toNat && (g' - g).toNat ≤ 32767

/-! ### Figures of the configuration -/

/-- The address N - 1 (R146). -/
def SegmentSize.top (n : SegmentSize) : Addr := Fin.ofNat 32 (n.toNat - 1)

namespace Machine

/-- P in milliseconds (R102). -/
def Configuration.period (c : Configuration) : Nat := Config.periodUnit * c.pUnits.toNat

/-- The limit of the host lease in milliseconds (R197). -/
def Configuration.leaseLimit (c : Configuration) : Nat := Config.leaseUnit * c.lease.toNat

/-- The host lease timer as it starts from zero: it does not run when L is 0 (R197). -/
def Configuration.leaseStart (c : Configuration) : Option Nat := if c.lease = 0 then none else some 0

/-- A statistics counter one higher, stopping at 65535 (R69, R139, R168). -/
def countUp (c : Counter) : Counter := if c = 0xFFFF then c else c + 1

/-- The gap between two sequence numbers (R123). -/
def sequenceGap (new last : Octet) : Nat := (new - last - 1).toNat

/-- The rank of `own` after a frame from `last` on a segment of size `n` (R148). -/
def rankOf (n : SegmentSize) (own last : Addr) : Nat := (((own.val : Int) - last.val - 1) % (n.toNat : Int)).toNat

end Machine

end Sys2Proof
end

