-- ==== Sys2Proof/Machine/Ops.lean ====
section
/-! DEFINITION. The named operations over the state, each used by several commands: the fields' short names, posting
events, the lists of the Transmit Scheduler, withdrawing claims, leaving HELD, and the reactions of the Point Table to a
station that acts as holder. -/

namespace Sys2Proof.Machine

/-! ### Short names -/

/-- The station state. -/
abbrev State.station (s : State) : StationState := s.ctrl.state
/-- The own address. -/
abbrev State.own (s : State) : Addr := s.straps.own
/-- The segment size in force. -/
abbrev State.n (s : State) : SegmentSize := s.ctrl.config.n
/-- The segment period in force, in milliseconds. -/
abbrev State.period (s : State) : Nat := s.ctrl.config.period

/-- The station states in which frame items reach the roster and the table (R19, R127). -/
def State.takesFrames (s : State) : Bool := s.station = .listening || s.station = .active || s.station = .detached

/-- The station states in which stale, contender and silence timers run (R19, R127). -/
def State.mirrorTimersRun (s : State) : Bool := s.takesFrames || s.station = .leaving

/-- The record of a point. -/
def State.pt (s : State) (p : PointId) : PointRecord := s.points[p]

/-- Replace the record of a point. -/
def State.setPt (s : State) (p : PointId) (r : PointRecord) : State := { s with points := s.points.set p r }

/-- The roster entry at an address. -/
def State.peer (s : State) (x : Addr) : PeerEntry := s.roster[x]

/-- Replace the roster entry at an address. -/
def State.setPeer (s : State) (x : Addr) (e : PeerEntry) : State := { s with roster := s.roster.set x e }

/-- The roster has an entry for every address below N but the own one (R121). -/
def State.hasPeer (s : State) (x : Addr) : Bool := x.val < s.n.toNat && x ≠ s.own

/-- All point ids in ascending order. -/
def allPoints : List PointId := List.finRange 256

/-- One item over the whole table: the records in ascending order of point id (R91). -/
def State.sweep (f : PointId → State → State) (s : State) : State := allPoints.foldl (fun t p => f p t) s

/-! ### Posting events -/

/-- The record that an offered POINT_CHANGED or RX_OVERRUN merges into (R207). -/
def Event.mergesInto : Event → Event → Bool
  | .pointChanged p _, .pointChanged q _ => p = q
  | .rxOverrun _, .rxOverrun _ => true
  | _, _ => false

/-- A waiting record after the offered record has merged into it (R208, R209). -/
def Event.merge (offered waiting : Event) : Event :=
  match offered, waiting with
  | .pointChanged p g, .pointChanged q g' => if p = q then .pointChanged p g else .pointChanged q g'
  | .rxOverrun _, .rxOverrun k => .rxOverrun (min (k + 1) Config.countMax)
  | _, w => w

/-- The Event Queue takes an offered record (R207). -/
def EventQueue.offer (q : EventQueue) (e : Event) : EventQueue :=
  if q.records.any (Event.mergesInto e) then { q with records := q.records.map (Event.merge e) }
  else if q.records.length < Config.eventCapacity then { q with records := q.records ++ [e] }
  else { q with lost := min (q.lost + 1) Config.countMax }

/-- Post a record. -/
def State.offer (s : State) (e : Event) : State := { s with events := s.events.offer e }

/-- Post a point event: only when the point is subscribed (R206). -/
def State.offerPoint (s : State) (p : PointId) (e : Event) : State := if (s.pt p).subscribed then s.offer e else s

/-! ### Counters -/

/-- records_old rises by 1 (R69). -/
def State.countOld (s : State) : State :=
  { s with counters := { s.counters with recordsOld := countUp s.counters.recordsOld } }
/-- records_rejected rises by 1 (R69). -/
def State.countRejected (s : State) : State :=
  { s with counters := { s.counters with recordsRejected := countUp s.counters.recordsRejected } }
/-- tx_dropped rises by 1 and TX_DROPPED is posted (R168). -/
def State.countDropped (s : State) (kind : FrameKind) (p : Option PointId) : State :=
  { s with
    counters := { s.counters with txDropped := countUp s.counters.txDropped }
    events := s.events.offer (.txDropped kind p) }

/-! ### The lists of the Transmit Scheduler -/

/-- The control list holds 16 requests (R156). -/
def Scheduler.full (t : Scheduler) : Bool := Config.controlCapacity ≤ t.control.length

/-- Append a request at the tail, unless an identical one waits (R157). -/
def Scheduler.append (t : Scheduler) (r : Request) : Scheduler :=
  if r ∈ t.control then t else { t with control := t.control ++ [r] }

/-- Remove a request (R158). -/
def Scheduler.remove (t : Scheduler) (r : Request) : Scheduler := { t with control := t.control.filter (· ≠ r) }

/-- Append an id to the publish list, unless it is there (R58). -/
def Scheduler.publishId (t : Scheduler) (p : PointId) : Scheduler :=
  if p ∈ t.publish then t else { t with publish := t.publish ++ [p] }

/-- Withdraw the work of the built frame, if its body is one of those named: a retry frame is discarded, and a frame in
flight is marked so that a collision discards it (R33, R45, R153). -/
def Scheduler.withdraw (t : Scheduler) (named : Body → Bool) : Scheduler :=
  match t.frame with
  | none => t
  | some b =>
      if named b.frame.body then
        match b.place with
        | .retry _ => { t with frame := none }
        | .inFlight _ => { t with frame := some { b with withdrawn := true } }
        | .cutOff => t
      else t

/-- The body is the CLAIM of a point. -/
def Body.isClaimOf (p : PointId) : Body → Bool
  | .claim q => q = p
  | _ => false

/-- The body is an ASSERT of a point. -/
def Body.isAssertOf (p : PointId) : Body → Bool
  | .assert q _ => q = p
  | _ => false

/-- An ASSERT of the point is in flight or waits as the retry frame (R44). -/
def Scheduler.assertBuilt (t : Scheduler) (p : PointId) : Bool :=
  match t.frame with
  | some b => Body.isAssertOf p b.frame.body && b.place ≠ .cutOff
  | none => false

/-- Append an id to the publish list. -/
def State.appendPublish (s : State) (p : PointId) : State := { s with tx := s.tx.publishId p }

/-- Append the id of a point if the point is HELD (R58, R60, R76, R201). -/
def State.appendHeld (s : State) (p : PointId) : State :=
  if (s.pt p).state = .held then s.appendPublish p else s

/-- An ACTIVE holder is challenged: an ASSERT request joins the control list (R44). -/
def State.requestAssert (s : State) (p : PointId) : State :=
  if Request.assert p ∈ s.tx.control ∨ s.tx.assertBuilt p then s
  else if s.tx.full then s.countDropped .assert (some p)
  else { s with tx := s.tx.append (.assert p) }

/-- A RELEASE request joins the control list if there is room; the answer is whether it could not be queued (R48). -/
def State.requestRelease (s : State) (p : PointId) : State × Bool :=
  if Request.release p ∈ s.tx.control then (s, false)
  else if s.tx.full then (s, true)
  else ({ s with tx := s.tx.append (.release p) }, false)

/-! ### Records -/

/-- The record becomes VACANT with the claimant given; the subscribed flag is kept (R8). -/
def PointRecord.vacate (r : PointRecord) (claimant : Option Addr) : PointRecord :=
  { claimant := claimant, subscribed := r.subscribed }

/-- The record becomes MIRROR with an owner; the stale timer starts (R11, R17). -/
def PointRecord.mirrorOf (r : PointRecord) (owner : Addr) (length : Option Nat) (value : Option Value) : PointRecord :=
  { state := .mirror, owner := some owner, length := length, value := value,
    age := if value.isSome then some 0 else none, subscribed := r.subscribed, staleTimer := some 0 }

/-- The record becomes STALE; the owner's fields are kept, the contender is dropped, the timers stop (R12, R90). -/
def PointRecord.toStale (r : PointRecord) : PointRecord :=
  { r with state := .stale, contender := none, staleTimer := none, contenderTimer := none }

/-- The contender is dropped and the record becomes MIRROR; the stale timer runs on (R4, R89). -/
def PointRecord.dropContender (r : PointRecord) : PointRecord :=
  { r with state := .mirror, contender := none, contenderTimer := none }

/-- The claimant recorded on hearing a CLAIM: the lower address stands (R41). -/
def lowerClaimant (recorded : Option Addr) (c : Addr) : Option Addr :=
  match recorded with
  | none => some c
  | some d => if c < d then some c else some d

/-- The claimant kept when a station leaves the record: any but that station (R50, R94). -/
def otherClaimant (recorded : Option Addr) (x : Addr) : Option Addr := if recorded = some x then none else recorded

/-! ### Claims and holdings -/

/-- The withdrawal of a claim, as part of the item that ends it (R33): by phase, the request is removed, or the retry
frame discarded, or the frame in flight marked. The claiming count falls by 1. The record is left to the item. -/
def State.withdrawClaim (s : State) (p : PointId) : State :=
  { s with
    claimingCount := s.claimingCount - 1
    tx := match (s.pt p).phase with
      | some .requested => s.tx.remove (.claim p)
      | some .sending => s.tx.withdraw (Body.isClaimOf p)
      | some .window | none => s.tx }

/-- The effects of leaving HELD (R45), but for the record itself. -/
def State.leaveHeld (s : State) (p : PointId) : State :=
  { s with
    heldCount := s.heldCount - 1
    tx := { (s.tx.remove (.assert p)).withdraw (Body.isAssertOf p) with
      publish := s.tx.publish.filter (· ≠ p) } }

/-- What a frame of a station acting as holder brings: a length, and with a PUBLISH record a value (R1). -/
structure Carried where
  length : Nat
  value : Option Value
deriving DecidableEq, Repr

/-- The record becomes a mirror of `y` with what its frame brought. -/
def State.mirrorCarried (s : State) (p : PointId) (y : Addr) (c : Carried) : State :=
  s.setPt p ((s.pt p).mirrorOf y (some c.length) c.value)

/-- POINT_CHANGED, when a value was brought and the point is subscribed (R72). -/
def State.postCarried (s : State) (p : PointId) (c : Carried) : State :=
  match c.value with
  | some v => s.offerPoint p (.pointChanged p v.generation)
  | none => s

/-- A claim is lost to a holder `y` (R36, R37). -/
def State.loseClaimTo (s : State) (p : PointId) (y : Addr) (c : Carried) (cause : ClaimLoss) : State :=
  (((s.withdrawClaim p).mirrorCarried p y c).offer (.claimLost p cause (some y))).postCarried p c

/-- The holder yields the point to `y` (R79, R81). -/
def State.yield (s : State) (p : PointId) (y : Addr) (c : Carried) (cause : OwnershipLoss) : State :=
  (((s.leaveHeld p).mirrorCarried p y c).offer (.ownershipLost p cause (some y))).postCarried p c

/-- The holder defends the point (R42, R80). -/
def State.defend (s : State) (p : PointId) : State := (s.requestAssert p).appendPublish p

/-- A PUBLISH record or ASSERT from `y` meets a HELD point (R79 to R82). -/
def State.challenge (s : State) (p : PointId) (y : Addr) (c : Carried) : State :=
  match s.station with
  | .active => if y < s.own then s.yield p y c .lowerAddress else s.defend p
  | .detached => s.yield p y c .yieldedDetached
  | .offline | .listening | .leaving | .clashed => s

/-- OWNER_CHANGED (old → y) and the mirror of `y` (R14, R63, R67). -/
def State.newOwner (s : State) (p : PointId) (old : Option Addr) (y : Addr) (c : Carried) : State :=
  ((s.mirrorCarried p y c).offerPoint p (.ownerChanged p old (some y))).postCarried p c

/-- The record of a point in dispute between its owner `x` and a station `y` (R83, R84, R88): the lower is owner, the
higher contender. When the owner stays, a STALE record's stale timer starts from zero and any other runs on. -/
def PointRecord.contested (r : PointRecord) (x y : Addr) (c : Carried) : PointRecord :=
  if y < x then
    { r.mirrorOf y (some c.length) c.value with state := .disputed, contender := some x, contenderTimer := some 0 }
  else
    { r with state := .disputed, claimant := none, contender := some y, contenderTimer := some 0,
             staleTimer := if r.state = .stale then some 0 else r.staleTimer }

/-- A station `y` acts as holder of a point owned by `x`, neither being this station (R83 to R85, R88). -/
def State.contest (s : State) (p : PointId) (x y : Addr) (c : Carried) : State :=
  let t := s.setPt p ((s.pt p).contested x y c)
  if y < x then
    ((t.offerPoint p (.ownerChanged p (some x) (some y))).offerPoint p (.disputeSeen p y x)).postCarried p c
  else t.offerPoint p (.disputeSeen p x y)

/-- A station `y` acts as holder of point `p`: what the table does, by the state of the point (R14, R62, R79 to R88).
`fromOwner` is what the frame does when `y` is the recorded owner. -/
def State.holderActs (s : State) (p : PointId) (y : Addr) (c : Carried) (loss : ClaimLoss)
    (fromOwner : State → State) : State :=
  let r := s.pt p
  match r.state with
  | .vacant => s.newOwner p none y c
  | .claiming => s.loseClaimTo p y c loss
  | .held => s.challenge p y c
  | .mirror | .stale | .disputed =>
      match r.owner with
      | none => s
      | some x =>
          if x = y then fromOwner s
          else if r.state = .stale ∧ r.claimant = some y then s.newOwner p (some x) y c
          else if r.state = .disputed ∧ r.contender = some y then s.setPt p { r with contenderTimer := some 0 }
          else s.contest p x y c

/-- The owner's record is fresh again: age 0, the stale timer restarts, and a STALE point becomes MIRROR (R65). -/
def PointRecord.refreshed (r : PointRecord) : PointRecord :=
  { r with
    state := if r.state = .stale then .mirror else r.state
    claimant := none
    age := some 0
    staleTimer := some 0 }

/-- A PUBLISH record from the owner of a MIRROR, STALE or DISPUTED point (R64 to R66). -/
def State.ownerPublishes (s : State) (p : PointId) (length : Nat) (v : Value) : State :=
  let r := s.pt p
  let accept := (s.setPt p { r.refreshed with length := some length, value := some v }).offerPoint p
    (.pointChanged p v.generation)
  if r.length.isSome ∧ r.length ≠ some length then s.countRejected
  else
    match r.value with
    | none => accept
    | some old =>
        if newerThan v.generation old.generation then accept
        else if v.generation = old.generation then s.setPt p r.refreshed
        else s.countOld

/-- An ASSERT from the owner of a MIRROR, STALE or DISPUTED point (R14). -/
def State.ownerAsserts (s : State) (p : PointId) (length : Nat) : State :=
  let r := s.pt p
  if r.length.isNone then s.setPt p { r with length := some length } else s

/-- The owner leaves a DISPUTED point: the contender is promoted with value absent (R51, R94). -/
def State.promote (s : State) (p : PointId) (x : Addr) : State :=
  let r := s.pt p
  match r.contender with
  | none => s
  | some c => (s.setPt p (r.mirrorOf c none none)).offerPoint p (.ownerChanged p (some x) (some c))

/-- The owner of a point is gone from the record, which becomes VACANT (R41, R50, R94, R95). -/
def State.ownerLeaves (s : State) (p : PointId) (x : Addr) (claimant : Option Addr) : State :=
  (s.setPt p ((s.pt p).vacate claimant)).offerPoint p (.ownerChanged p (some x) none)

/-- A point becomes STALE, with POINT_STALE if it is subscribed (R70, R90, R92). -/
def State.goStale (s : State) (p : PointId) (x : Addr) : State :=
  (s.setPt p (s.pt p).toStale).offerPoint p (.pointStale p x)

/-- The contender of a DISPUTED point is dropped: no event (R51, R89, R92). -/
def State.dropContender (s : State) (p : PointId) : State := s.setPt p (s.pt p).dropContender

/-! ### Roster notifications, one point each -/

/-- SILENT or DETACHED of `x` at one point (R92, R93). -/
def State.markDown (x : Addr) (p : PointId) (s : State) : State :=
  let r := s.pt p
  if (r.state = .mirror ∨ r.state = .disputed) ∧ r.owner = some x then s.goStale p x
  else if r.state = .disputed ∧ r.contender = some x then s.dropContender p
  else s

/-- GONE of `x` at one point (R94). -/
def State.forget (x : Addr) (p : PointId) (s : State) : State :=
  let r := s.pt p
  if (r.state = .mirror ∨ r.state = .stale) ∧ r.owner = some x then s.ownerLeaves p x (otherClaimant r.claimant x)
  else if r.state = .disputed ∧ r.owner = some x then s.promote p x
  else if r.state = .disputed ∧ r.contender = some x then s.dropContender p
  else if (r.state = .vacant ∨ r.state = .stale) ∧ r.claimant = some x then s.setPt p { r with claimant := none }
  else s

/-- Fresh start of `x` at one point (R95). -/
def State.restarted (x : Addr) (p : PointId) (s : State) : State :=
  let r := s.pt p
  if (r.state = .mirror ∨ r.state = .stale ∨ r.state = .disputed) ∧ r.owner = some x then
    s.ownerLeaves p x r.claimant
  else if r.state = .disputed ∧ r.contender = some x then s.dropContender p
  else s

/-! ### The frame being applied -/

/-- An item of the frame being applied has been taken; after the last one the Frame Processor is idle (R142). -/
def State.itemsLeft (s : State) (a : Applying) (rest : List FrameItem) : State :=
  { s with rx := { s.rx with applying := if rest = [] then none else some { a with items := rest } } }

/-! ### The outputs -/

/-- ATTNn is asserted (driven low): R213. -/
def State.attention (s : State) : Bool :=
  s.events.records ≠ [] || s.host.condition.isSome || s.station = .detached || s.station = .clashed

/-- TXEN is asserted: from the first start bit of an own frame to its last stop bit (R150). -/
def State.txen (s : State) : Bool :=
  match s.line.state, s.tx.frame with
  | .sending, some b => b.readBack < b.frame.encode.length
  | _, _ => false

/-- The octet on its way out on TXD: absent is the idle level (R106, R150). -/
def State.txd (s : State) : Option Octet :=
  match s.line.state, s.tx.frame with
  | .sending, some b => b.frame.encode[b.readBack]?
  | _, _ => none

end Sys2Proof.Machine
end

