-- ==== Sys2Proof/Machine/Flags.lean ====
section
/-! DEFINITION. Codes, flag octets, presence octets and the layouts of every answer's data (R176, R178, R217 to R219). -/

namespace Sys2Proof.Machine

/-- Octet with the given bits, bit 0 first. -/
def bitsOctet (bits : List Bool) : Octet :=
  octetOf (bits.foldr (fun b acc => 2 * acc + (if b then 1 else 0)) 0)

/-- An optional octet as it is sent: 0x00 when absent (R217). -/
def orZero (o : Option Octet) : Octet := o.getD 0

/-- The status code (R176). -/
def Status.code : Status → Octet
  | .ok => 0x00
  | .empty => 0x01
  | .badState => 0x81
  | .notHolder => 0x82
  | .badPoint => 0x83
  | .badLength => 0x84
  | .limit => 0x85
  | .listFull => 0x86
  | .badConfig => 0x87
  | .configLocked => 0x88
  | .conditionPending => 0x89
  | .unknownCommand => 0x8A
  | .badAddress => 0x8B

/-- OK and EMPTY are ordinary; every other status is an exception (R176). -/
def Status.isException : Status → Bool
  | .ok | .empty => false
  | .badState | .notHolder | .badPoint | .badLength | .limit | .listFull | .badConfig | .configLocked
  | .conditionPending | .unknownCommand | .badAddress => true

/-- The station state code (R217). -/
def StationState.code : StationState → Octet
  | .offline => 0x00
  | .listening => 0x01
  | .active => 0x02
  | .detached => 0x03
  | .leaving => 0x04
  | .clashed => 0x05

/-- The cause code (R217). -/
def Cause.code : Cause → Octet
  | .host => 0x01
  | .listenDone => 0x02
  | .lease => 0x03
  | .discipline => 0x04
  | .clash => 0x05
  | .leaveDone => 0x06

/-- The discipline octet (R217). -/
def Discipline.code : Discipline → Octet
  | .strict => 0x00
  | .lenient => 0x01

/-- The point state code (R217). -/
def PointState.code : PointState → Octet
  | .vacant => 0x00
  | .claiming => 0x01
  | .held => 0x02
  | .mirror => 0x03
  | .stale => 0x04
  | .disputed => 0x05

/-- The claim phase code (R217). -/
def ClaimPhase.code : ClaimPhase → Octet
  | .requested => 0x01
  | .sending => 0x02
  | .window => 0x03

/-- The peer state code (R218). -/
def PeerState.code : PeerState → Octet
  | .absent => 0x00
  | .present => 0x01
  | .silent => 0x02
  | .gone => 0x03

/-- The cause code of CLAIM_LOST (R219). -/
def ClaimLoss.code : ClaimLoss → Octet
  | .contended => 0x01
  | .asserted => 0x02
  | .published => 0x03
  | .txFailed => 0x04
  | .detached => 0x05

/-- The cause code of OWNERSHIP_LOST (R219). -/
def OwnershipLoss.code : OwnershipLoss → Octet
  | .lowerAddress => 0x01
  | .yieldedDetached => 0x02

/-- The cause code of PEER_GONE (R219). -/
def GoneCause.code : GoneCause → Octet
  | .timeout => 0x01
  | .farewell => 0x02

/-- A counter's value as a two-octet quantity. -/
def nat16 (n : Nat) : List Octet := octets16 (BitVec.ofNat 16 n)

/-- The nine statistics counters as GET STATION sends them (R217). -/
def Counters.data (c : Counters) : List Octet :=
  [c.framingErrors, c.crcErrors, c.invalidFrames, c.duplicates, c.overruns, c.collisions, c.txDropped, c.recordsOld,
    c.recordsRejected].flatMap octets16

/-- The GET STATION data, 33 octets (R217). -/
def StationReport.data (r : StationReport) : List Octet :=
  [r.state.code, orZero (r.cause.map Cause.code), addrOctet r.straps.own, octetOf r.straps.rate.toNat, r.config.n.octet,
    r.config.pUnits, r.config.lease, r.config.discipline.code, bitsOctet [r.locked, r.conditionPending], octetOf r.held,
    octetOf r.claiming, octetOf r.published, octetOf r.requests, octetOf r.events, octetOf r.lost] ++ r.counters.data

/-- One group is read from the block that owns it, as that block stands (R178). -/
def StationReport.read (r : StationReport) (s : State) : StationGroup → StationReport
  | .station => { r with state := s.station, cause := s.ctrl.cause }
  | .straps => { r with straps := s.straps }
  | .configuration => { r with config := s.ctrl.config, locked := s.ctrl.locked }
  | .table => { r with held := s.heldCount, claiming := s.claimingCount }
  | .transmit => { r with published := s.tx.publish.length, requests := s.tx.control.length }
  | .host => { r with
      events := s.events.records.length, lost := s.events.lost, conditionPending := s.host.condition.isSome }
  | .counters => { r with counters := s.counters }

/-- The groups in the order in which they are read (R178). -/
def StationGroup.all : List StationGroup := [.station, .straps, .configuration, .table, .transmit, .host, .counters]

/-- The place of a group in that order. -/
def StationGroup.index : StationGroup → Nat
  | .station => 0
  | .straps => 1
  | .configuration => 2
  | .table => 3
  | .transmit => 4
  | .host => 5
  | .counters => 6

/-- The groups not yet read, up to and including `last`, are read in their order (R178). -/
def StationReading.through (a : StationReading) (s : State) (last : StationGroup) : StationReading :=
  { groups := max a.groups (last.index + 1)
    report := StationGroup.all.foldl
      (fun r g => if a.groups ≤ g.index ∧ g.index ≤ last.index then r.read s g else r) a.report }

/-- Value octets padded with 0x00 to eight (R217). -/
def paddedValue (octets : List Octet) : List Octet := (octets ++ List.replicate Config.valueMax 0).take Config.valueMax

/-- The READ POINT data, 21 octets (R27, R217). -/
def State.pointData (s : State) (p : PointId) : List Octet :=
  let r := s.pt p
  [pointOctet p, r.state.code,
    bitsOctet [r.subscribed, r.state = .held && s.tx.publish.contains p],
    bitsOctet [r.owner.isSome, r.claimant.isSome, r.contender.isSome, r.length.isSome, r.value.isSome, r.age.isSome,
      r.phase.isSome],
    orZero (r.owner.map addrOctet), orZero (r.claimant.map addrOctet), orZero (r.contender.map addrOctet),
    orZero (r.length.map octetOf), orZero (r.phase.map ClaimPhase.code)] ++
  octets16 ((r.value.map Value.generation).getD 0) ++ nat16 (r.age.getD 0) ++
  paddedValue ((r.value.map Value.octets).getD [])

/-- The READ PEER data, 11 octets (R188, R218). -/
def State.peerData (s : State) (x : Addr) : List Octet :=
  let e := s.peer x
  [addrOctet x, e.state.code, bitsOctet [e.detached, e.mismatch],
    bitsOctet [e.announced.isSome, e.lastSeq.isSome, e.silence.isSome],
    orZero (e.announced.map fun a => octetOf a.held), orZero (e.announced.map fun a => a.n.octet),
    orZero (e.announced.map fun a => a.pUnits), orZero e.lastSeq, octetOf e.missed] ++
  nat16 (min (e.silence.getD 0) Config.ageMax)

/-- The CLEAR CONDITION data, 4 octets (R217). -/
def Condition.data (c : Condition) : List Octet :=
  [c.status.code, c.command, bitsOctet [c.subject.isSome], orZero c.subject]

/-- The READ EVENT data: kind, presence, fields (R219). -/
def Event.data : Event → List Octet
  | .pointChanged p g => [0x01, 0, pointOctet p] ++ octets16 g
  | .pointStale p x => [0x02, 0, pointOctet p, addrOctet x]
  | .ownerChanged p old new =>
      [0x03, bitsOctet [old.isSome, new.isSome], pointOctet p, orZero (old.map addrOctet), orZero (new.map addrOctet)]
  | .disputeSeen p x y => [0x04, 0, pointOctet p, addrOctet x, addrOctet y]
  | .claimWon p => [0x05, 0, pointOctet p]
  | .claimLost p cause w => [0x06, bitsOctet [w.isSome], pointOctet p, cause.code, orZero (w.map addrOctet)]
  | .ownershipLost p cause w => [0x07, bitsOctet [w.isSome], pointOctet p, cause.code, orZero (w.map addrOctet)]
  | .peerJoined x => [0x10, 0, addrOctet x]
  | .peerReturned x => [0x11, 0, addrOctet x]
  | .peerRestarted x => [0x12, 0, addrOctet x]
  | .peerSilent x => [0x13, 0, addrOctet x]
  | .peerDetached x => [0x14, 0, addrOctet x]
  | .peerResumed x => [0x15, 0, addrOctet x]
  | .peerGone x cause => [0x16, 0, addrOctet x, cause.code]
  | .peerMismatch x n pUnits => [0x17, 0, addrOctet x, n.octet, pUnits]
  | .stationState st cause => [0x20, bitsOctet [cause.isSome], st.code, orZero (cause.map Cause.code)]
  | .rxOverrun k => [0x21, 0, octetOf k]
  | .txDropped kind p => [0x22, bitsOctet [p.isSome], kind.code, orZero (p.map pointOctet)]
  | .eventsLost k => [0x23, 0, octetOf k]

/-- The octets of an answer: marker, status, data length, data (R176). -/
def answerOctets (status : Status) (data : List Octet) : List Octet :=
  Config.answerMarker :: status.code :: octetOf data.length :: data

end Sys2Proof.Machine
end

