-- ==== Sys2Proof/Machine/Station.lean ====
section
/-! DEFINITION. Changes of station state, each one item of the Station Controller: the entries to LISTENING, ACTIVE,
DETACHED, LEAVING, CLASHED, and session end (R105 to R120, R199, R201). -/

namespace Sys2Proof.Machine

/-- The new state and cause are recorded and STATION_STATE is posted (R105). -/
def State.changeStation (s : State) (st : StationState) (cause : Cause) : State :=
  { s with
    ctrl := { s.ctrl with state := st, cause := some cause }
    events := s.events.offer (.stationState st (some cause)) }

/-- The Receive FIFO is flushed and the items not yet taken of the frame being applied are discarded (R141). -/
def State.flush (s : State) : State := { s with rx := {} }

/-- The entry to LISTENING by JOIN (R107). -/
def State.enterListening (s : State) : State :=
  { s with
    ctrl := { s.ctrl with locked := true, listenTimer := some 0 }
    roster := Vector.replicate 32 {}
    line := { s.line with state := .seeking, octets := [], gap := some 0, lastSource := s.n.top, ladder := none }
    }.changeStation .listening .host

/-- Slots are offered from the next round on (R109, R147). -/
def Ladder.offerNext (l : Ladder) : Ladder := { l with offeredFrom := l.round + 1 }

/-- The entry to ACTIVE when the listen period ends (R109): the slots of a round already running are not offered. -/
def State.enterActive (s : State) : State :=
  let t := s.changeStation .active .listenDone
  { t with
    ctrl := { t.ctrl with
      listenTimer := none, freshStart := true, presenceTimer := some 0, leaseTimer := t.ctrl.config.leaseStart }
    line := { t.line with ladder := t.line.ladder.map Ladder.offerNext } }

/-- A claim lost on entry to DETACHED, at one point: the claim is withdrawn, the record becomes VACANT, a RELEASE is
queued for a claim in SENDING or WINDOW if there is room, and CLAIM_LOST is posted (R39). -/
def State.loseClaimDetached (p : PointId) (s : State) : State :=
  let r := s.pt p
  if r.state = .claiming then
    let t := (s.withdrawClaim p).setPt p (r.vacate none)
    let u := if r.phase = some .requested then t else (t.requestRelease p).1
    u.offer (.claimLost p .detached none)
  else s

/-- The entry to DETACHED from ACTIVE (R199). -/
def State.enterDetached (s : State) (cause : Cause) : State :=
  let t := s.changeStation .detached cause
  let u := State.sweep State.loseClaimDetached { t with ctrl := { t.ctrl with leaseTimer := none } }
  { u with tx := { u.tx with publish := [] } }

/-- RESUME from DETACHED (R201). -/
def State.resumeActive (s : State) : State :=
  let t := { s with host := { s.host with condition := none } }.changeStation .active .host
  State.sweep (fun p u => u.appendHeld p)
    { t with ctrl := { t.ctrl with leaseTimer := t.ctrl.config.leaseStart } }

/-- Claim window and refresh timer stop on entry to LEAVING (R19). -/
def PointRecord.stopOwnTimers (r : PointRecord) : PointRecord := { r with claimWindow := none, refreshTimer := none }

/-- The Scheduler on entry to LEAVING: a frame in flight is kept but will not be retried, all else is discarded, and the
FAREWELL request is the one request (R116, R166). -/
def Scheduler.leaving (t : Scheduler) : Scheduler :=
  { t with
    control := [.farewell]
    publish := []
    frame := match t.frame with
      | some b =>
        match b.place with
        | .inFlight _ => some { b with withdrawn := true }
        | .retry _ | .cutOff => none
      | none => none }

/-- The entry to LEAVING from ACTIVE or DETACHED (R116). -/
def State.enterLeaving (s : State) : State :=
  let t := (s.changeStation .leaving .host).flush
  { t with
    ctrl := { t.ctrl with freshStart := false, presenceTimer := none, leaseTimer := none }
    tx := t.tx.leaving
    points := t.points.map PointRecord.stopOwnTimers }

/-- A frame in flight is cut off: it is kept as built, and is never sent again (R120, R153). -/
def Scheduler.cutOff (t : Scheduler) : Scheduler :=
  { t with frame := t.frame.map fun b =>
    match b.place with
    | .inFlight _ => { b with place := .cutOff }
    | .retry _ | .cutOff => b }

/-- A frame being sent is cut off on the line, which is released: the Line Interface is DISCARDING until the line has been
idle for 2 ct from then on (R120, R130, R131; the moment from which the gap counts is log entry 17's). -/
def Line.cutOff (l : Line) : Line :=
  if l.state = .sending then { l with state := .discarding true, octets := [], gap := some 0, ladder := none } else l

/-- The entry to CLASHED: a frame being sent is cut off, the lists stay as they are, reception is flushed (R120). -/
def State.enterClashed (s : State) : State :=
  let t := (s.changeStation .clashed .clash).flush
  { t with
    ctrl := { t.ctrl with freshStart := false, listenTimer := none, presenceTimer := none, leaseTimer := none }
    tx := t.tx.cutOff
    line := t.line.cutOff }

/-- Session end: the entry to OFFLINE (R29, R118). -/
def State.endSession (s : State) (cause : Cause) : State :=
  let t := (s.changeStation .offline cause).flush
  { t with
    ctrl := { t.ctrl with freshStart := false, listenTimer := none, presenceTimer := none, leaseTimer := none }
    points := t.points.map fun r => r.vacate none
    heldCount := 0
    claimingCount := 0
    tx := { t.tx with control := [], publish := [], frame := none }
    line := { t.line with state := .off, octets := [], gap := none, ladder := none }
    roster := Vector.replicate 32 {} }

/-- A discipline violation: in ACTIVE the station enters DETACHED (R194). -/
def State.violation (s : State) : State := if s.station = .active then s.enterDetached .discipline else s

end Sys2Proof.Machine
end

