-- ==== Sys2Proof/Machine/Slots.lean ====
section
/-! DEFINITION. The slots of the ladder: choosing a frame, building it and sending it (R148, R149, R153, R155,
R159 to R162, R165, R166). -/

namespace Sys2Proof.Machine

/-! ### Sending -/

/-- The frame begins its first start bit in a slot (R149, R150): the Line Interface is SENDING and the ladder stops. -/
def State.send (s : State) (b : BuiltFrame) (slot : Nat) : State :=
  { s with
    tx := { s.tx with frame := some { b with place := .inFlight slot, readBack := 0 } }
    line := { s.line with state := .sending, gap := none, ladder := none } }

/-- A new frame takes the next sequence number and goes out in the slot (R155, R162). -/
def State.sendNew (s : State) (body : Body) (slot : Nat) : State :=
  let seq := s.tx.sequence + 1
  { s with tx := { s.tx with sequence := seq } }.send
    { frame := { source := s.own, sequence := seq, body := body }, place := .inFlight slot } slot

/-! ### Building, by kind (R162) -/

/-- The state a PRESENCE announces (R112). -/
def State.presenceState (s : State) : PresenceState := if s.station = .detached then .detached else .active

/-- A PRESENCE is built from the state as it stands; any PRESENCE request leaves the list (R112, R113). -/
def State.sendPresence (s : State) (slot : Nat) : State :=
  let body := Body.presence s.presenceState s.ctrl.freshStart s.heldCount s.n s.ctrl.config.pUnits
  { s with tx := s.tx.remove .presence }.sendNew body slot

/-- The frame-built report of a CLAIM: REQUESTED becomes SENDING (R24, R32). -/
def State.claimBuilt (s : State) (p : PointId) : State :=
  let r := s.pt p
  if r.state = .claiming ∧ r.phase = some .requested then s.setPt p { r with phase := some .sending } else s

/-- A CLAIM is built from its request (R32). -/
def State.sendClaim (s : State) (p : PointId) (slot : Nat) : State :=
  ({ s with tx := s.tx.remove (.claim p) }.claimBuilt p).sendNew (.claim p) slot

/-- An ASSERT is built from its request with the length of the HELD record (R44). -/
def State.sendAssert (s : State) (p : PointId) (slot : Nat) : State :=
  { s with tx := s.tx.remove (.assert p) }.sendNew (.assert p (octetOf ((s.pt p).length.getD 0))) slot

/-- The record of a point as a PUBLISH frame carries it (R59). -/
def State.recordOf (s : State) (p : PointId) : Option PublishRecord :=
  (s.pt p).value.map fun v => { point := p, generation := v.generation, octets := v.octets }

/-- A PUBLISH is built from the oldest 1 to 4 ids of the publish list, which leave it (R59). -/
def State.sendPublish (s : State) (slot : Nat) : State :=
  let ids := s.tx.publish.take Config.recordsPerPublish
  { s with tx := { s.tx with publish := s.tx.publish.drop Config.recordsPerPublish } }.sendNew
    (.publish (ids.filterMap s.recordOf)) slot

/-- A frame is built from a request of the control list, which leaves it (R158, R162). -/
def State.sendRequest (s : State) (r : Request) (slot : Nat) : State :=
  match r with
  | .claim p => s.sendClaim p slot
  | .assert p => s.sendAssert p slot
  | .release p => { s with tx := s.tx.remove r }.sendNew (.release p) slot
  | .recall x ids => { s with tx := s.tx.remove r }.sendNew (.recall x ids) slot
  | .presence => s.sendPresence slot
  | .farewell => { s with tx := s.tx.remove r }.sendNew .farewell slot

/-! ### Choosing -/

/-- The kind of a request (R156). -/
def Request.kind : Request → FrameKind
  | .claim _ => .claim
  | .assert _ => .assert
  | .release _ => .release
  | .recall _ _ => .recall
  | .presence => .presence
  | .farewell => .farewell

/-- The oldest request of a kind. -/
def Scheduler.oldest (t : Scheduler) (kind : FrameKind) : Option Request := t.control.find? (·.kind = kind)

/-- The request chosen at a ranked slot: the oldest of the first kind that waits, in the order of R160. -/
def Scheduler.rankedRequest (t : Scheduler) : Option Request :=
  [FrameKind.assert, .claim, .release, .recall, .presence].findSome? t.oldest

/-- The request chosen at the urgent slot: the oldest ASSERT, failing that the oldest CLAIM (R161). -/
def Scheduler.urgentRequest (t : Scheduler) : Option Request := [FrameKind.assert, .claim].findSome? t.oldest

/-- The retry frame with its urgent mark (R153). -/
def Scheduler.retryFrame (t : Scheduler) : Option (BuiltFrame × Bool) :=
  match t.frame with
  | some b =>
      match b.place with
      | .retry urgent => some (b, urgent)
      | .inFlight _ | .cutOff => none
  | none => none

/-- The body is a PRESENCE that carries the fresh-start flag (R111). -/
def Body.isFreshPresence : Body → Bool
  | .presence _ fresh _ _ _ => fresh
  | _ => false

/-- The body is an ASSERT or a CLAIM (R161). -/
def Body.isUrgent : Body → Bool
  | .assert _ _ | .claim _ => true
  | _ => false

/-- The ladder comes to the next slot of a number: in the round that runs while that slot is still ahead there, and
otherwise in the round after it (R147). -/
def Ladder.reach (l : Ladder) (slot : Nat) : Ladder :=
  { l with round := if l.next ≤ slot then l.round else l.round + 1, next := slot + 1 }

/-- The Access Controller offers the slots of the round that runs (R109, R147). -/
def Ladder.offers (l : Ladder) : Bool := l.offeredFrom ≤ l.round

/-- A slot of the running ladder begins, and what the station does with it where the round's slots are offered. The ladder
runs only while the line is idle (R147). -/
def State.slotBegins (s : State) (slot : Nat) (offer : State → State) : State :=
  match s.line.state, s.line.ladder with
  | .idle, some l =>
      let t := { s with line := { s.line with ladder := some (l.reach slot) } }
      if (l.reach slot).offers then offer t else t
  | _, _ => s

/-- The number of this station's ranked slot (R148). -/
def State.rankedSlotNumber (s : State) : Nat := 1 + rankOf s.n s.own s.line.lastSource

/-- What goes out at an offered ranked slot while the fresh-start marker is set (R159). -/
def State.freshSlot (s : State) (slot : Nat) : State :=
  match s.tx.retryFrame with
  | some (b, _) => if Body.isFreshPresence b.frame.body then s.send b slot else s
  | none => s.sendPresence slot

/-- What goes out at an offered ranked slot with the marker clear (R160). -/
def State.plainSlot (s : State) (slot : Nat) : State :=
  match s.tx.retryFrame with
  | some (b, _) => s.send b slot
  | none =>
      match s.tx.rankedRequest with
      | some r => s.sendRequest r slot
      | none => if s.tx.publish = [] then s else s.sendPublish slot

/-- What goes out at an offered ranked slot in LEAVING: the FAREWELL (R166). -/
def State.leavingSlot (s : State) (slot : Nat) : State :=
  match s.tx.retryFrame with
  | some (b, _) => s.send b slot
  | none =>
      match s.tx.oldest .farewell with
      | some r => s.sendRequest r slot
      | none => s

/-- What the station does with an offered ranked slot. In LISTENING and CLASHED it follows the ladder and does nothing
(R148, R165). -/
def State.rankedOffer (slot : Nat) (s : State) : State :=
  match s.station with
  | .active | .detached => if s.ctrl.freshStart then s.freshSlot slot else s.plainSlot slot
  | .leaving => s.leavingSlot slot
  | .offline | .listening | .clashed => s

/-- The station's ranked slot begins (R148, R149). -/
def State.rankedSlot (s : State) : State := s.slotBegins s.rankedSlotNumber (State.rankedOffer s.rankedSlotNumber)

/-- RANKED_SLOT. -/
def execRankedSlot (s : State) : Host.Outcome State Fault Refusal := .next s.rankedSlot

/-- What goes out at an offered urgent slot (R161). -/
def State.urgentChoice (s : State) : State :=
  match s.tx.retryFrame with
  | some (b, urgent) => if Body.isUrgent b.frame.body ∧ urgent = false then s.send b 0 else s
  | none =>
      match s.tx.urgentRequest with
      | some r => s.sendRequest r 0
      | none => s

/-- What the station does with an urgent slot: it is offered in ACTIVE and DETACHED, and nothing goes out while the
fresh-start marker is set (R148, R159, R165). -/
def State.urgentOffer (s : State) : State :=
  match s.station with
  | .active | .detached => if s.ctrl.freshStart then s else s.urgentChoice
  | .offline | .listening | .leaving | .clashed => s

/-- An urgent slot begins: slot 0 of a round (R148, R149). -/
def State.urgentSlot (s : State) : State := s.slotBegins 0 State.urgentOffer

/-- URGENT_SLOT. -/
def execUrgentSlot (s : State) : Host.Outcome State Fault Refusal := .next s.urgentSlot

end Sys2Proof.Machine
end

