-- ==== Sys2Proof/Machine/LineEvents.lean ====
section
/-! DEFINITION. The line: start bits, characters, frame ends and their judging, and the ends of the station's own frames
(R129 to R141, R146, R147, R150 to R154, R164). -/

namespace Sys2Proof.Machine

/-! ### The ladder and the ends of frames -/

/-- A frame end, valid with a source or garbled: the last source is set, the Line Interface is IDLE and a ladder begins
with slot 0 (R131, R138, R146, R147). -/
def State.closeFrame (s : State) (source : Addr) : State :=
  { s with line := { state := .idle, octets := [], gap := none, lastSource := source, ladder := some {} } }

/-- A garbled end sets the last source to N - 1 (R146). -/
def State.closeGarbled (s : State) : State := s.closeFrame s.n.top

/-- The gap timer runs: no character is under way, and the line can come to have been idle for 2 ct. A start bit stops the
timer, and the middle of the next stop bit restarts it (R130). -/
def Line.quiet (l : Line) : Bool := l.gap.isSome

/-- The wait for 2 ct of idle line after JOIN is over (R130, R131, R147). -/
def State.seekingDone (s : State) : State :=
  if s.line.state = .seeking ∧ s.line.quiet then
    { s with line := { s.line with state := .idle, gap := none, ladder := some {} } }
  else s

/-- LINE_IDLE_AFTER_SEEKING. -/
def execLineIdleAfterSeeking (s : State) : Host.Outcome State Fault Refusal := .next s.seekingDone

/-- A start bit on the line: it begins a frame on an idle line, and stops the gap timer elsewhere (R130, R131, R147). -/
def State.startBit (s : State) : State :=
  match s.line.state with
  | .idle => { s with line := { s.line with state := .inFrame, octets := [], gap := none, ladder := none } }
  | .seeking | .inFrame | .discarding _ | .sending => { s with line := { s.line with gap := none } }
  | .off => s

/-- START_BIT. -/
def execStartBit (s : State) : Host.Outcome State Fault Refusal := .next s.startBit

/-! ### Collisions -/

/-- The point of a dropped CLAIM that is still CLAIMING in SENDING loses its claim (R38). -/
def State.claimDropped (s : State) (p : PointId) : State :=
  let r := s.pt p
  if s.takesFrames ∧ r.state = .claiming ∧ r.phase = some .sending then
    ({ s with claimingCount := s.claimingCount - 1 }.setPt p (r.vacate none)).offer (.claimLost p .txFailed none)
  else s

/-- The consequence of a dropped frame (R154). -/
def State.dropReport (s : State) (b : Body) : State :=
  match b with
  | .claim p => s.claimDropped p
  | .publish records =>
      if s.station = .active then records.foldl (fun t r => t.appendHeld r.point) s else s
  | .farewell => s.endSession .leaveDone
  | .presence .. | .assert _ _ | .release _ | .recall _ _ => s

/-- What becomes of an aborted frame: discarded when its work was withdrawn, dropped at its eighth attempt, else the
retry frame with the urgent mark of the slot it began in (R151, R153, R154). -/
def State.aborted (s : State) (b : BuiltFrame) (slot : Nat) : State :=
  if b.withdrawn then { s with tx := { s.tx with frame := none } }
  else if Config.attemptLimit ≤ b.attempts + 1 then
    (({ s with tx := { s.tx with frame := none } }.countDropped b.frame.body.kind b.frame.body.point?)).dropReport
      b.frame.body
  else
    { s with tx := { s.tx with
        frame := some { b with attempts := b.attempts + 1, place := .retry (slot = 0), readBack := 0 } } }

/-- Every character of the frame has been read back as it was sent (R150). -/
def BuiltFrame.readWhole (b : BuiltFrame) : Bool := b.frame.encode.length ≤ b.readBack

/-- The station aborts its frame in flight: the line is released, the collision counted, and the frame's fate decided
(R151). Once every character has matched there is none left to differ, and a collision does not occur (log entry 1). -/
def State.collides (s : State) : State :=
  match s.line.state, s.tx.frame with
  | .sending, some b =>
      match b.place with
      | .inFlight slot =>
          if b.readWhole then s
          else
            { s with
              line := { s.line with state := .discarding true, octets := [], gap := some 0, ladder := none }
              counters := { s.counters with collisions := countUp s.counters.collisions } }.aborted b slot
      | .retry _ | .cutOff => s
  | _, _ => s

/-- COLLISION. -/
def execCollision (s : State) : Host.Outcome State Fault Refusal := .next s.collides

/-! ### Characters -/

/-- A character read back while the own frame is on the line: it is compared with the one sent, and a mismatch is a
collision (R150, R151). After the last character there is nothing to compare with (log entry 14). -/
def State.characterReadBack (s : State) (octet : Octet) (stopHigh : Bool) : State :=
  match s.tx.frame with
  | some b =>
      match b.frame.encode[b.readBack]? with
      | some sent =>
          if stopHigh ∧ octet = sent then
            { s with
              tx := { s.tx with frame := some { b with readBack := b.readBack + 1 } }
              line := { s.line with gap := some 0 } }
          else s.collides
      | none => { s with line := { s.line with gap := some 0 } }
  | none => s

/-- The stop bit of a character is sampled (R129 to R131). The gap timer restarts whether it reads high or low. -/
def State.character (s : State) (octet : Octet) (stopHigh : Bool) : State :=
  match s.line.state with
  | .inFrame =>
      if stopHigh ∧ s.line.octets.length < Config.frameMax then
        { s with line := { s.line with octets := s.line.octets ++ [octet], gap := some 0 } }
      else { s with line := { s.line with state := .discarding false, octets := [], gap := some 0 } }
  | .seeking | .discarding _ => { s with line := { s.line with gap := some 0 } }
  | .sending => s.characterReadBack octet stopHigh
  | .off | .idle => s

/-- CHARACTER_RECEIVED. -/
def execCharacterReceived (octet : Octet) (stopHigh : Bool) (s : State) : Host.Outcome State Fault Refusal :=
  .next (s.character octet stopHigh)

/-! ### Judging a received frame -/

/-- The reference sequence for a source: of the newest frame from it that waits or is being applied, else the roster's
last sequence (R137). -/
def State.referenceSequence (s : State) (x : Addr) : Option Octet :=
  let waiting := s.rx.fifo.filter (·.source = x)
  let applying := match s.rx.applying with
    | some a => if a.frame.source = x then [a.frame] else []
    | none => []
  match (applying ++ waiting).getLast? with
  | some f => some f.sequence
  | none => if (s.peer x).state = .present ∨ (s.peer x).state = .silent then (s.peer x).lastSeq else none

/-- A valid frame of another station is discarded as a duplicate, discarded for the station state, lost on overrun, or
taken into the Receive FIFO: checks 5 to 7 of R134. -/
def State.takeFrame (s : State) (f : Frame) : State :=
  if s.referenceSequence f.source = some f.sequence then
    { s with counters := { s.counters with duplicates := countUp s.counters.duplicates } }
  else if ¬ s.takesFrames then s
  else if s.rx.fifo.length < Config.fifoDepth then { s with rx := { s.rx with fifo := s.rx.fifo ++ [f] } }
  else
    { s with
      counters := { s.counters with overruns := countUp s.counters.overruns }
      events := s.events.offer (.rxOverrun 1) }

/-- A valid frame that bears the own address while the station is not sending (R119, R136). Slot 0 of the new ladder begins
at the same frame end (R147), and the slot's start or the clash may be taken first (R120): the sender says which (log entry
17). A frame begun in the slot is cut off by the entry. -/
def State.clash (s : State) : State :=
  if s.takesFrames then
    match s.slotFirst with
    | [] => s.enterClashed
    | first :: rest =>
        let t := { s with slotFirst := rest }
        if first then t.urgentSlot.enterClashed else t.enterClashed
  else s

/-- framing_errors rises by 1 (R139). -/
def State.countFraming (s : State) : State :=
  { s with counters := { s.counters with framingErrors := countUp s.counters.framingErrors } }

/-- A received frame is judged at its end, by the checks of R134 in their order, and the end is reported (R138). -/
def State.judgeFrame (s : State) : State :=
  let octets := s.line.octets
  if octets.length < Config.frameMin ∨ Config.frameMax < octets.length then s.countFraming.closeGarbled
  else if ¬ crcMatches octets then
    { s with counters := { s.counters with crcErrors := countUp s.counters.crcErrors } }.closeGarbled
  else
    match readFrame s.n octets with
    | none =>
        { s with counters := { s.counters with invalidFrames := countUp s.counters.invalidFrames } }.closeGarbled
    | some f =>
        if f.source = s.own then (s.closeFrame f.source).clash else (s.closeFrame f.source).takeFrame f

/-- The line has been idle for 2 ct after a received frame (R130, R131, R134). While a character is under way there is no
such end, and the command does not occur (log entry 1). -/
def State.frameEnds (s : State) : State :=
  if s.line.quiet then
    match s.line.state with
    | .inFrame => s.judgeFrame
    | .discarding false => s.countFraming.closeGarbled
    | .discarding true => s.closeGarbled
    | .off | .seeking | .idle | .sending => s
  else s

/-- FRAME_END. -/
def execFrameEnd (s : State) : Host.Outcome State Fault Refusal := .next s.frameEnds

/-! ### The end of the station's own frame -/

/-- The refresh timer of a point still HELD restarts (R16, R24). -/
def State.restartRefresh (s : State) (p : PointId) : State :=
  let r := s.pt p
  if r.state = .held then s.setPt p { r with refreshTimer := some 0 } else s

/-- The claim window of a point in SENDING starts (R15, R24, R32). -/
def State.startWindow (s : State) (p : PointId) : State :=
  let r := s.pt p
  if r.state = .claiming ∧ r.phase = some .sending then
    s.setPt p { r with phase := some .window, claimWindow := some 0 }
  else s

/-- The consequence of a frame that ended without collision (R164). In LEAVING and CLASHED no record changes (R24). -/
def State.endReport (s : State) (b : Body) : State :=
  match b with
  | .presence _ fresh _ _ _ => if fresh then { s with ctrl := { s.ctrl with freshStart := false } } else s
  | .publish records =>
      if s.takesFrames then records.foldl (fun t r => t.restartRefresh r.point) s else s
  | .claim p => if s.takesFrames then s.startWindow p else s
  | .farewell => s.endSession .leaveDone
  | .assert _ _ | .release _ | .recall _ _ => s

/-- The station's own frame has been read back whole and the line has then been idle for 2 ct (R130, R131, R136, R150,
R164). While a character has still to be read back as it was sent, or another is under way, the frame has no such end, and
the command does not occur (log entry 1). -/
def State.ownFrameEnds (s : State) : State :=
  match s.line.state, s.tx.frame with
  | .sending, some b =>
      match b.place with
      | .inFlight _ =>
          if b.readWhole ∧ s.line.quiet then ({ s with tx := { s.tx with frame := none } }.closeFrame s.own).endReport b.frame.body
          else s
      | .retry _ | .cutOff => s
  | _, _ => s

/-- FRAME_ENDED_WITHOUT_COLLISION. -/
def execFrameEndedWithoutCollision (s : State) : Host.Outcome State Fault Refusal := .next s.ownFrameEnds

end Sys2Proof.Machine
end

