-- ==== Sys2Proof/Machine/HostPort.lean ====
section
/-! DEFINITION. The Host Port: the SPI transaction, the command queue, and the judging and answering of the command in
hand (R170 to R177, R190 to R195). -/

namespace Sys2Proof.Machine

/-! ### The transaction -/

/-- CSN_FALL (R173, R174, R190). -/
def State.csnFalls (s : State) : State :=
  if s.pins.csnHigh then
    if s.pins.inReset then { s with pins := { s.pins with csnHigh := false } }
    else if s.host.queue.length < Config.commandDepth then
      { s with
        pins := { s.pins with csnHigh := false, miso := some Config.waitOctet }
        host := { s.host with port := .receiving {} } }
    else
      { s with
        pins := { s.pins with csnHigh := false, miso := some Config.fillOctet }
        host := { s.host with port := .ignoring } }
  else s

/-- CSN_FALL. -/
def execCsnFall (s : State) : Host.Outcome State Fault Refusal := .next s.csnFalls

/-- CSN_RISE: whatever the transaction was doing ends; a command that waits stays in the queue (R173). -/
def State.csnRises (s : State) : State :=
  { s with
    pins := { s.pins with csnHigh := true, miso := none }
    host := { s.host with port := .idle, queue := s.host.queue.map fun q => { q with live := false } } }

/-- CSN_RISE. -/
def execCsnRise (s : State) : Host.Outcome State Fault Refusal := .next s.csnRises

/-- The command as received so far, with one more octet (R171). -/
def Receiving.add (c : Receiving) (o : Octet) : Receiving :=
  match c.code, c.count with
  | none, _ => { c with code := some o }
  | some _, none => { c with count := some o }
  | some code, some _ =>
      { c with
        kept := if c.kept.length < keptParams code then c.kept ++ [o] else c.kept
        received := c.received + 1 }

/-- The command is complete: every announced octet has been received (R171). -/
def Receiving.complete? (c : Receiving) : Option QueuedCommand :=
  match c.code, c.count with
  | some code, some count =>
      if count.toNat ≤ c.received then some { code := code, count := count, params := c.kept, live := true } else none
  | _, _ => none

/-- A host command becoming complete restarts the lease in ACTIVE, where L is not 0 (R197). -/
def Controller.restartLease (c : Controller) : Controller :=
  if c.state = .active then { c with leaseTimer := c.config.leaseStart } else c

/-- An octet arrives while the port is RECEIVING: it is kept, or it completes the command, which joins the queue (R173).
The next octet presented is a wait octet either way (R170). -/
def State.receiveOctet (s : State) (c : Receiving) (o : Octet) : State :=
  let c' := c.add o
  match c'.complete? with
  | none => { s with
      host := { s.host with port := .receiving c' }
      pins := { s.pins with miso := some Config.waitOctet } }
  | some q => { s with
      host := { s.host with port := .waiting, queue := s.host.queue ++ [q] }
      ctrl := s.ctrl.restartLease
      pins := { s.pins with miso := some Config.waitOctet } }

/-- COMMAND_COMPLETE: the last announced octet of a command arrives. It is not this step where the octet is not the last
one announced (log entries 1 and 11). -/
def State.lastOctet (s : State) (o : Octet) : State :=
  match s.host.port with
  | .receiving c => if (c.add o).complete?.isSome then s.receiveOctet c o else s
  | .idle | .waiting | .answering _ | .finished | .ignoring => s

/-- COMMAND_COMPLETE. -/
def execCommandComplete (mosi : Octet) (s : State) : Host.Outcome State Fault Refusal := .next (s.lastOctet mosi)

/-- SPI_OCTET_CLOCKED: the octet on MISO has been sent and the next one is presented (R170, R173). -/
def State.octetClocked (s : State) (o : Octet) : State :=
  match s.host.port with
  | .idle => s
  | .receiving c => s.receiveOctet c o
  | .waiting => { s with pins := { s.pins with miso := some Config.waitOctet } }
  | .answering [] => { s with
      host := { s.host with port := .finished }
      pins := { s.pins with miso := some Config.fillOctet } }
  | .answering (x :: rest) => { s with
      host := { s.host with port := .answering rest }
      pins := { s.pins with miso := some x } }
  | .finished | .ignoring => { s with pins := { s.pins with miso := some Config.fillOctet } }

/-- SPI_OCTET_CLOCKED. -/
def execSpiOctetClocked (mosi : Octet) (s : State) : Host.Outcome State Fault Refusal := .next (s.octetClocked mosi)

/-! ### The command in hand -/

/-- What a command's item returns: the state it leaves, the status and the answer's data (R172). -/
structure Answered where
  state : State
  status : Status
  data : List Octet := []

/-- A command refused with a status, changing nothing. -/
def State.refuse (s : State) (status : Status) : Answered := { state := s, status := status }

/-- A command its station state does not admit: BAD_STATE; RESUME clears a pending record even so (R175, R195). -/
def State.notAdmitted (s : State) (c : HostCommand) : Answered :=
  match c with
  | .resume => { s with host := { s.host with condition := none } }.refuse .badState
  | _ => s.refuse .badState

/-- The checks of R175 in their order, then the command's own item. -/
def State.judge (s : State) (q : QueuedCommand) (item : List Octet → State → Answered) : Answered :=
  let c := HostCommand.ofCode q.code
  if s.host.condition.isSome ∧ ¬ (c.any HostCommand.takenWhilePending) then
    s.violation.refuse .conditionPending
  else
    match c with
    | none => s.refuse .unknownCommand
    | some c =>
        if c.admitsCount q.count then
          if c.admittedIn s.station then item q.params s else s.notAdmitted c
        else s.refuse .badLength

/-- The point or address that a condition record keeps (R192). -/
def QueuedCommand.subject (q : QueuedCommand) : Option Octet :=
  if (HostCommand.ofCode q.code).any HostCommand.namesSubject then q.params.head? else none

/-- Under strict discipline an exception answer creates a condition record when none is pending, RESUME's BAD_STATE
excepted (R192, R195). -/
def State.recordCondition (s : State) (q : QueuedCommand) (status : Status) : State :=
  if s.ctrl.config.discipline = .strict ∧ status.isException ∧ s.host.condition = none ∧
      ¬ (HostCommand.ofCode q.code = some .resume ∧ status = .badState) then
    { s with host := { s.host with
        condition := some { status := status, command := q.code, subject := q.subject } } }
  else s

/-- The answer is composed: the transaction that still waits for it is ANSWERING, and for a transaction that has ended it
is discarded (R172, R173). -/
def State.deliver (s : State) (q : QueuedCommand) (status : Status) (data : List Octet) : State :=
  if q.live then { s with host := { s.host with port := .answering (answerOctets status data) } } else s

/-- The command in hand, if it is one of those named, is judged, taken and answered, and leaves the queue (R172, R175).
A row that names another command than the one in hand does not occur (log entries 1 and 9). -/
def State.takeCommand (s : State) (named : Option HostCommand) (item : List Octet → State → Answered) : State :=
  match s.host.queue with
  | [] => s
  | q :: rest =>
      if HostCommand.ofCode q.code = named then
        let a := { s with host := { s.host with queue := rest } }.judge q item
        (a.state.recordCondition q a.status).deliver q a.status a.data
      else s

/-- UNKNOWN_COMMAND: the command in hand names none of the fifteen (R175). -/
def execUnknownCommand (s : State) : Host.Outcome State Fault Refusal :=
  .next (s.takeCommand none fun _ t => t.refuse .unknownCommand)

end Sys2Proof.Machine
end

