-- ==== Sys2Proof/Machine/StationCommands.lean ====
section
/-! DEFINITION. GET STATION, CONFIGURE, JOIN, LEAVE, RESUME and CLEAR CONDITION (sections 8.2 and 8.3). Each item is
reached only after checks 1 to 4 of R175. -/

namespace Sys2Proof.Machine

/-- An accepted command. -/
def State.accept (s : State) (data : List Octet := []) : Answered := { state := s, status := .ok, data := data }

/-- GET STATION's last item: the groups not yet read are read and the answer is composed (R178). -/
def getStationItem (_ : List Octet) (s : State) : Answered :=
  { s with host := { s.host with reading := {} } }.accept (s.host.reading.through s .counters).report.data

/-- The command in hand is GET STATION, with a parameter count it admits. -/
def State.stationAsked (s : State) : Bool :=
  match s.host.queue with
  | q :: _ => HostCommand.ofCode q.code = some .getStation && HostCommand.getStation.admitsCount q.count
  | [] => false

/-- GET STATION in hand. Without a break the groups not yet read are read and the command is answered. A break before the
counters ends the command's reads at its group: the command stays in hand with what has been read, and items of other
blocks may be taken before the next read (R178, log entry 13). -/
def State.getStation (s : State) : State :=
  if s.stationAsked then
    match s.breaks with
    | [] => s.takeCommand (some .getStation) getStationItem
    | last :: rest =>
        let t := { s with breaks := rest }
        if last = .counters then t.takeCommand (some .getStation) getStationItem
        else { t with host := { t.host with reading := t.host.reading.through t last } }
  else s.takeCommand (some .getStation) getStationItem

/-- GET_STATION. -/
def execGetStation (s : State) : Host.Outcome State Fault Refusal := .next s.getStation

/-- The discipline octet (R217). -/
def octetDiscipline (o : Octet) : Option Discipline :=
  if o = 0 then some .strict else if o = 1 then some .lenient else none

/-- The subscribe-all octet (R217). -/
def octetSwitch (o : Octet) : Option Bool := if o = 0 then some false else if o = 1 then some true else none

/-- The settings replaced together and the lock set; with subscribe-all every point is subscribed (R103). -/
def State.configured (s : State) (c : Configuration) (subscribeAll : Bool) : State :=
  { s with
    ctrl := { s.ctrl with config := c, locked := true }
    points := if subscribeAll then s.points.map fun r => { r with subscribed := true } else s.points }

/-- CONFIGURE's item: checks 2 and 3 of R103, then the settings (R179). -/
def configureItem (params : List Octet) (s : State) : Answered :=
  match params with
  | [n, p, l, d, a] =>
      if s.ctrl.locked then s.refuse .configLocked
      else
        match octetSegment n, octetDiscipline d, octetSwitch a with
        | some n, some d, some a =>
            if periodOk p then
              (s.configured { n := n, pUnits := p, lease := l, discipline := d } a).accept
            else s.refuse .badConfig
        | _, _, _ => s.refuse .badConfig
  | _ => s.refuse .badLength

/-- CONFIGURE. -/
def execConfigure (s : State) : Host.Outcome State Fault Refusal := .next (s.takeCommand (some .configure) configureItem)

/-- JOIN's item (R107, R180). -/
def joinItem (_ : List Octet) (s : State) : Answered :=
  if s.own.val < s.n.toNat then s.enterListening.accept else s.refuse .badConfig

/-- JOIN. -/
def execJoin (s : State) : Host.Outcome State Fault Refusal := .next (s.takeCommand (some .join) joinItem)

/-- LEAVE's item (R115, R116, R181). -/
def leaveItem (_ : List Octet) (s : State) : Answered :=
  match s.station with
  | .listening | .clashed => (s.endSession .host).accept
  | .active | .detached => s.enterLeaving.accept
  | .offline | .leaving => s.refuse .badState

/-- LEAVE. -/
def execLeave (s : State) : Host.Outcome State Fault Refusal := .next (s.takeCommand (some .leave) leaveItem)

/-- RESUME's item, in DETACHED (R201); elsewhere `State.notAdmitted` has answered (R195). -/
def resumeItem (_ : List Octet) (s : State) : Answered := s.resumeActive.accept

/-- RESUME. -/
def execResume (s : State) : Host.Outcome State Fault Refusal := .next (s.takeCommand (some .resume) resumeItem)

/-- CLEAR CONDITION's item: the pending record is returned and cleared, or EMPTY (R182, R195). -/
def clearConditionItem (_ : List Octet) (s : State) : Answered :=
  match s.host.condition with
  | some c => { s with host := { s.host with condition := none } }.accept c.data
  | none => s.refuse .empty

/-- CLEAR_CONDITION. -/
def execClearCondition (s : State) : Host.Outcome State Fault Refusal :=
  .next (s.takeCommand (some .clearCondition) clearConditionItem)

end Sys2Proof.Machine
end

