-- ==== Sys2Proof/Machine/PointCommands.lean ====
section
/-! DEFINITION. READ POINT, WRITE POINT, CLAIM POINT, RELEASE POINT, RECALL POINT, SUBSCRIBE, UNSUBSCRIBE, READ EVENT and
READ PEER (sections 8.4 and 8.5). Each item is reached only after checks 1 to 4 of R175. A parameter list shorter than
the command's form cannot get there (log entry 21). -/

namespace Sys2Proof.Machine

/-! ### READ POINT -/

/-- READ POINT's item: the record as it stands, nothing changes (R27, R183). -/
def readPointItem (params : List Octet) (s : State) : Answered :=
  match params with
  | p :: _ => s.accept (s.pointData (octetPoint p))
  | [] => s.refuse .badLength

/-- READ_POINT. -/
def execReadPoint (s : State) : Host.Outcome State Fault Refusal := .next (s.takeCommand (some .readPoint) readPointItem)

/-! ### WRITE POINT -/

/-- The record after an accepted write (R56). -/
def PointRecord.written (r : PointRecord) (octets : List Octet) (generation : Generation) : PointRecord :=
  { r with value := some { octets := octets, generation := generation } }

/-- The generation a write gives: one higher, from 65535 to 0 (R56). -/
def PointRecord.nextGeneration (r : PointRecord) : Generation := ((r.value.map Value.generation).getD 0) + 1

/-- WRITE POINT's item: checks 2 and 3 of R55, then R56. -/
def writePointItem (params : List Octet) (s : State) : Answered :=
  match params with
  | o :: octets =>
      let p := octetPoint o
      let r := s.pt p
      if r.state ≠ .held then s.refuse .notHolder
      else if r.length ≠ some octets.length then s.refuse .badLength
      else ((s.setPt p (r.written octets r.nextGeneration)).appendPublish p).accept (octets16 r.nextGeneration)
  | [] => s.refuse .badLength

/-- WRITE_POINT. -/
def execWritePoint (s : State) : Host.Outcome State Fault Refusal :=
  .next (s.takeCommand (some .writePoint) writePointItem)

/-! ### CLAIM POINT -/

/-- The record after an accepted claim (R31). -/
def PointRecord.claimed (r : PointRecord) (own : Addr) (octets : List Octet) : PointRecord :=
  { state := .claiming, claimant := some own, length := some octets.length,
    value := some { octets := octets, generation := 0 }, phase := some .requested, subscribed := r.subscribed }

/-- An accepted claim: the record, the claiming count, and the CLAIM request in place of a waiting RELEASE (R31). -/
def State.claimPoint (s : State) (p : PointId) (octets : List Octet) : State :=
  let t := s.setPt p ((s.pt p).claimed s.own octets)
  { t with claimingCount := t.claimingCount + 1, tx := (t.tx.remove (.release p)).append (.claim p) }

/-- CLAIM POINT's item: checks 2 to 5 of R30, then R31. -/
def claimPointItem (params : List Octet) (s : State) : Answered :=
  match params with
  | o :: length :: octets =>
      let p := octetPoint o
      let r := s.pt p
      if r.state ≠ .vacant ∧ r.state ≠ .stale then s.refuse .badPoint
      else if length.toNat = 0 ∨ Config.valueMax < length.toNat ∨ octets.length ≠ length.toNat then
        s.refuse .badLength
      else if Config.claimLimit ≤ s.claimingCount ∨ Config.holdLimit ≤ s.heldCount + s.claimingCount then
        s.refuse .limit
      else if s.tx.full ∧ Request.release p ∉ s.tx.control then s.refuse .listFull
      else (s.claimPoint p octets).accept
  | _ => s.refuse .badLength

/-- CLAIM_POINT. -/
def execClaimPoint (s : State) : Host.Outcome State Fault Refusal :=
  .next (s.takeCommand (some .claimPoint) claimPointItem)

/-! ### RELEASE POINT -/

/-- The release-not-announced flag as answer data (R48, R217). -/
def releaseData (notAnnounced : Bool) : List Octet := [if notAnnounced then 1 else 0]

/-- RELEASE POINT's item (R46 to R48). -/
def releasePointItem (params : List Octet) (s : State) : Answered :=
  match params with
  | o :: _ =>
      let p := octetPoint o
      let r := s.pt p
      match r.state with
      | .held =>
          let (t, notAnnounced) := ((s.leaveHeld p).setPt p (r.vacate none)).requestRelease p
          t.accept (releaseData notAnnounced)
      | .claiming =>
          let t := (s.withdrawClaim p).setPt p (r.vacate none)
          if r.phase = some .requested then t.accept (releaseData false)
          else
            let (u, notAnnounced) := t.requestRelease p
            u.accept (releaseData notAnnounced)
      | .vacant | .mirror | .stale | .disputed => s.refuse .notHolder
  | [] => s.refuse .badLength

/-- RELEASE_POINT. -/
def execReleasePoint (s : State) : Host.Outcome State Fault Refusal :=
  .next (s.takeCommand (some .releasePoint) releasePointItem)

/-! ### RECALL POINT -/

/-- The request is a RECALL to `x` that names `p` (R74). -/
def Request.recalls (x : Addr) (p : PointId) : Request → Bool
  | .recall d ids => d = x && ids.contains p
  | _ => false

/-- The request is a RECALL to `x` with fewer than 8 ids (R74). -/
def Request.recallRoom (x : Addr) : Request → Bool
  | .recall d ids => d = x && ids.length < Config.idsPerRecall
  | _ => false

/-- The request with one more id. -/
def Request.addId (p : PointId) : Request → Request
  | .recall d ids => .recall d (ids ++ [p])
  | r => r

/-- The id added to the oldest RECALL request to `x` that has room; none when there is none (R74). -/
def mergeRecall (x : Addr) (p : PointId) : List Request → Option (List Request)
  | [] => none
  | r :: rest => if r.recallRoom x then some (r.addId p :: rest) else (mergeRecall x p rest).map (r :: ·)

/-- The control list takes a recall of `p` from `x`; none is LIST_FULL (R74). -/
def Scheduler.recall (t : Scheduler) (x : Addr) (p : PointId) : Option Scheduler :=
  if t.control.any (Request.recalls x p) then some t
  else
    match mergeRecall x p t.control with
    | some control => some { t with control := control }
    | none => if t.full then none else some (t.append (.recall x [p]))

/-- The holder a recall of a record is addressed to (R73, R74). -/
def PointRecord.recallTarget (r : PointRecord) : Option Addr :=
  match r.state with
  | .mirror | .stale | .disputed => r.owner
  | .vacant | .claiming | .held => none

/-- RECALL POINT's item: checks 2 and 3 of R73, with R74. -/
def recallPointItem (params : List Octet) (s : State) : Answered :=
  match params with
  | o :: _ =>
      let p := octetPoint o
      match (s.pt p).recallTarget with
      | none => s.refuse .badPoint
      | some x =>
          match s.tx.recall x p with
          | some t => { s with tx := t }.accept
          | none => s.refuse .listFull
  | [] => s.refuse .badLength

/-- RECALL_POINT. -/
def execRecallPoint (s : State) : Host.Outcome State Fault Refusal :=
  .next (s.takeCommand (some .recallPoint) recallPointItem)

/-! ### SUBSCRIBE and UNSUBSCRIBE -/

/-- The subscribed flag of points `first` to `first + count - 1` (R26). -/
def State.setSubscribed (s : State) (first count : Nat) (flag : Bool) : State :=
  { s with points := s.points.mapIdx fun i r =>
      if first ≤ i ∧ i < first + count then { r with subscribed := flag } else r }

/-- The item of SUBSCRIBE and UNSUBSCRIBE (R186). -/
def subscriptionItem (flag : Bool) (params : List Octet) (s : State) : Answered :=
  match params with
  | [first, hi, lo] =>
      let count := (joinOctets hi lo).toNat
      if count = 0 then s.accept
      else if 256 < first.toNat + count then s.refuse .badPoint
      else (s.setSubscribed first.toNat count flag).accept
  | _ => s.refuse .badLength

/-- SUBSCRIBE. -/
def execSubscribe (s : State) : Host.Outcome State Fault Refusal :=
  .next (s.takeCommand (some .subscribe) (subscriptionItem true))

/-- UNSUBSCRIBE. -/
def execUnsubscribe (s : State) : Host.Outcome State Fault Refusal :=
  .next (s.takeCommand (some .unsubscribe) (subscriptionItem false))

/-! ### READ EVENT and READ PEER -/

/-- After a removal EVENTS_LOST is appended when the lost-event count is not 0 (R210). -/
def EventQueue.noteLost (q : EventQueue) : EventQueue :=
  if q.lost = 0 then q else { records := q.records ++ [.eventsLost q.lost], lost := 0 }

/-- READ EVENT's item (R187, R210, R211). -/
def readEventItem (_ : List Octet) (s : State) : Answered :=
  match s.events.records with
  | [] => s.refuse .empty
  | e :: rest => { s with events := EventQueue.noteLost { s.events with records := rest } }.accept e.data

/-- READ_EVENT. -/
def execReadEvent (s : State) : Host.Outcome State Fault Refusal := .next (s.takeCommand (some .readEvent) readEventItem)

/-- READ PEER's item (R188). -/
def readPeerItem (params : List Octet) (s : State) : Answered :=
  match params with
  | o :: _ =>
      match octetAddr s.n o with
      | some x => if s.hasPeer x then s.accept (s.peerData x) else s.refuse .badAddress
      | none => s.refuse .badAddress
  | [] => s.refuse .badLength

/-- READ_PEER. -/
def execReadPeer (s : State) : Host.Outcome State Fault Refusal := .next (s.takeCommand (some .readPeer) readPeerItem)

end Sys2Proof.Machine
end

