-- ==== Sys2Proof/Machine/Reset.lean ====
section
/-! DEFINITION. RESET and RESET_RELEASE (R28, R54, R78, R99, R101, R105, R145, R169, R190, R196, R203, R214). -/

namespace Sys2Proof.Machine

/-- Power-on or RESETn asserted: the part is cleared. What is not the part's own stays: the level of CSn, the sampled
straps until they are sampled again, and what the sender has queued. -/
def State.cleared (s : State) (inReset : Bool) : State :=
  { State.reset with
    pins := { csnHigh := s.pins.csnHigh, inReset := inReset, miso := none }
    straps := s.straps
    pending := s.pending
    breaks := s.breaks
    slotFirst := s.slotFirst }

/-- RESET. -/
def execReset (s : State) : Host.Outcome State Fault Refusal := .next (s.cleared true)

/-- Reset is released: the straps are sampled and the cleared part starts OFFLINE with the default configuration
(R101, R102). A release presupposes the reset (log entry 7). -/
def State.released (s : State) (address : BitVec 5) (rate : BitVec 2) : State :=
  { s.cleared false with straps := { own := address.toFin, rate := rate } }

/-- RESET_RELEASE. -/
def execResetRelease (address : BitVec 5) (rate : BitVec 2) (s : State) : Host.Outcome State Fault Refusal :=
  .next (s.released address rate)

end Sys2Proof.Machine
end

