-- ==== Sys2Proof/Machine/FrameItems.lean ====
section
/-! DEFINITION. The items of a received frame: the Frame Processor, the roster's bookkeeping, and the table's reactions
to PUBLISH records, CLAIM, ASSERT, RELEASE and RECALL (R14, R35 to R51, R62 to R88, R122 to R126, R142, R143). -/

namespace Sys2Proof.Machine

/-! ### The Frame Processor -/

/-- The idle Frame Processor takes the frame at the head of the FIFO (R142). -/
def State.takeNextFrame (s : State) : State :=
  match s.rx.applying, s.rx.fifo with
  | none, f :: rest => { s with rx := { fifo := rest, applying := some { frame := f, items := f.items s.own } } }
  | _, _ => s

/-- FRAME_PROCESSOR_TAKES_FRAME. -/
def execFrameProcessorTakesFrame (s : State) : Host.Outcome State Fault Refusal := .next s.takeNextFrame

/-- The next item of the frame being applied is taken, in the states that take frames (R19, R142): `take` gives its
effect when it is an item of the row's sort, and otherwise the row does not occur (log entries 1 and 9). -/
def State.takeItem (s : State) (take : Frame → FrameItem → Option (State → State)) : State :=
  match s.rx.applying with
  | some a =>
      match a.items with
      | item :: rest =>
          match take a.frame item with
          | some effect => if s.takesFrames then effect (s.itemsLeft a rest) else s
          | none => s
      | [] => s
  | none => s

/-! ### The roster -/

/-- The entry becomes GONE (R126): flags cleared, optional fields absent, the missed-frame count kept. -/
def PeerEntry.goneEntry (e : PeerEntry) : PeerEntry := { state := .gone, missed := e.missed }

/-- The peer is GONE: PEER_GONE, the entry, and the GONE notification (R126, R94). -/
def State.peerGone (s : State) (x : Addr) (cause : GoneCause) : State :=
  State.sweep (State.forget x) ((s.setPeer x (s.peer x).goneEntry).offer (.peerGone x cause))

/-- The missed-frame count after a frame of sequence `seq` (R123). -/
def PeerEntry.missedAfter (e : PeerEntry) (seq : Octet) : Nat :=
  match e.lastSeq with
  | some last => min (e.missed + sequenceGap seq last) Config.countMax
  | none => e.missed

/-- The bookkeeping of any valid frame of a peer (R122). -/
def State.heardFrom (s : State) (x : Addr) (seq : Octet) : State :=
  let e := s.peer x
  match e.state with
  | .absent | .gone =>
      (s.setPeer x { e with state := .present, lastSeq := some seq, silence := some 0 }).offer (.peerJoined x)
  | .silent =>
      (s.setPeer x { e with
        state := .present, missed := e.missedAfter seq, lastSeq := some seq, silence := some 0 }).offer
        (.peerReturned x)
  | .present => s.setPeer x { e with missed := e.missedAfter seq, lastSeq := some seq, silence := some 0 }

/-- Step 1 of R124: a fresh start. -/
def State.takeFresh (s : State) (x : Addr) (fresh : Bool) : State :=
  if fresh then State.sweep (State.restarted x) (s.offer (.peerRestarted x)) else s

/-- Step 2 of R124: the detached flag. -/
def State.takeDetached (s : State) (x : Addr) (st : PresenceState) : State :=
  let e := s.peer x
  match st, e.detached with
  | .detached, false =>
      State.sweep (State.markDown x) ((s.setPeer x { e with detached := true }).offer (.peerDetached x))
  | .active, true => (s.setPeer x { e with detached := false }).offer (.peerResumed x)
  | .detached, true | .active, false => s

/-- Steps 3 and 4 of R124: what is announced, and the mismatch flag. -/
def State.takeAnnounced (s : State) (x : Addr) (a : Announced) : State :=
  let e := s.peer x
  let differs : Bool := a.n ≠ s.n || a.pUnits ≠ s.ctrl.config.pUnits
  let t := s.setPeer x { e with announced := some a, mismatch := differs }
  if differs && !e.mismatch then t.offer (.peerMismatch x a.n a.pUnits) else t

/-- The roster item of a frame (R122, R124, R126). The roster has no entry for the own address or for N or more. -/
def State.rosterItem (s : State) (f : Frame) : State :=
  if s.hasPeer f.source then
    let t := s.heardFrom f.source f.sequence
    match f.body with
    | .presence st fresh held n pUnits =>
        ((t.takeFresh f.source fresh).takeDetached f.source st).takeAnnounced f.source
          { held := held, n := n, pUnits := pUnits }
    | .farewell => t.peerGone f.source .farewell
    | .publish _ | .claim _ | .assert _ _ | .release _ | .recall _ _ => t
  else s

/-- ROSTER_FRAME_ITEM. -/
def execRosterFrameItem (s : State) : Host.Outcome State Fault Refusal :=
  .next (s.takeItem fun f item => match item with
    | .roster => some fun t => t.rosterItem f
    | _ => none)

/-! ### PUBLISH, CLAIM, ASSERT, RELEASE, RECALL at the table -/

/-- One PUBLISH record from `x` (R62). -/
def State.publishRecord (s : State) (x : Addr) (r : PublishRecord) : State :=
  let v : Value := { octets := r.octets, generation := r.generation }
  s.holderActs r.point x { length := r.octets.length, value := some v } .published
    fun t => t.ownerPublishes r.point r.octets.length v

/-- PUBLISH_RECORD. -/
def execPublishRecord (s : State) : Host.Outcome State Fault Refusal :=
  .next (s.takeItem fun f item => match item with
    | .record r => some fun t => t.publishRecord f.source r
    | _ => none)

/-- An ASSERT from `x` with a length octet (R14, R36, R79 to R84, R87, R88). -/
def State.assertHeard (s : State) (x : Addr) (p : PointId) (length : Octet) : State :=
  if 1 ≤ length.toNat ∧ length.toNat ≤ Config.valueMax then
    s.holderActs p x { length := length.toNat, value := none } .asserted fun u => u.ownerAsserts p length.toNat
  else s.countRejected

/-- ASSERT_HEARD. -/
def execAssertHeard (s : State) : Host.Outcome State Fault Refusal :=
  .next (s.takeItem fun f item => match item with
    | .assert p length => some fun t => t.assertHeard f.source p length
    | _ => none)

/-- A claim is lost to a lower claimant `c` (R35). -/
def State.loseClaimContended (s : State) (p : PointId) (c : Addr) : State :=
  ((s.withdrawClaim p).setPt p ((s.pt p).vacate (some c))).offer (.claimLost p .contended (some c))

/-- A DETACHED holder yields to a CLAIM of `c` (R43). -/
def State.yieldToClaim (s : State) (p : PointId) (c : Addr) : State :=
  ((s.leaveHeld p).setPt p ((s.pt p).vacate (some c))).offer (.ownershipLost p .yieldedDetached none)

/-- A CLAIM from `c` (R35, R41 to R43). -/
def State.claimHeard (s : State) (c : Addr) (p : PointId) : State :=
  let r := s.pt p
  match r.state with
  | .vacant => s.setPt p { r with claimant := lowerClaimant r.claimant c }
  | .claiming => if c < s.own then s.loseClaimContended p c else s
  | .held =>
      match s.station with
      | .active => s.defend p
      | .detached => s.yieldToClaim p c
      | .offline | .listening | .leaving | .clashed => s
  | .mirror => if r.owner = some c then s.ownerLeaves p c (some c) else s
  | .stale =>
      if r.owner = some c then s.ownerLeaves p c (some c)
      else s.setPt p { r with claimant := lowerClaimant r.claimant c }
  | .disputed =>
      if r.owner = some c then s.ownerLeaves p c (some c)
      else if r.contender = some c then s.setPt p { r with contenderTimer := some 0 }
      else s

/-- CLAIM_HEARD. -/
def execClaimHeard (s : State) : Host.Outcome State Fault Refusal :=
  .next (s.takeItem fun f item => match item with
    | .claim p => some fun t => t.claimHeard f.source p
    | _ => none)

/-- A RELEASE from `x` (R50, R51). -/
def State.releaseHeard (s : State) (x : Addr) (p : PointId) : State :=
  let r := s.pt p
  match r.state with
  | .mirror => if r.owner = some x then s.ownerLeaves p x (otherClaimant r.claimant x) else s
  | .stale =>
      if r.owner = some x then s.ownerLeaves p x (otherClaimant r.claimant x)
      else if r.claimant = some x then s.setPt p { r with claimant := none }
      else s
  | .vacant => if r.claimant = some x then s.setPt p { r with claimant := none } else s
  | .disputed =>
      if r.owner = some x then s.promote p x
      else if r.contender = some x then s.dropContender p
      else s
  | .claiming | .held => s

/-- RELEASE_HEARD. -/
def execReleaseHeard (s : State) : Host.Outcome State Fault Refusal :=
  .next (s.takeItem fun f item => match item with
    | .release p => some fun t => t.releaseHeard f.source p
    | _ => none)

/-- A RECALL addressed to this station: in ACTIVE the HELD points it names join the publish list (R76). -/
def State.recallHeard (s : State) (points : List PointId) : State :=
  if s.station = .active then points.foldl State.appendHeld s else s

/-- RECALL_HEARD. -/
def execRecallHeard (s : State) : Host.Outcome State Fault Refusal :=
  .next (s.takeItem fun _ item => match item with
    | .recall points => some fun t => t.recallHeard points
    | _ => none)

end Sys2Proof.Machine
end

