-- ==== Sys2Proof/Machine/Timers.lean ====
section
/-! DEFINITION. The timers reaching their limits, and a millisecond of time (R15 to R19, R34, R70, R89, R90, R109, R113,
R125, R126, R198). A command of a timer has its effect when the timer stands at its limit: one that was
stopped or restarted before the command is taken has not reached it (R198, log entry 2). -/

namespace Sys2Proof.Machine

/-- The timer runs and has reached its limit. -/
def timerReached (t : Option Nat) (limit : Nat) : Bool :=
  match t with
  | some ms => limit ≤ ms
  | none => false

/-! ### Per-point timers -/

/-- The record of a claim that is won (R34). -/
def PointRecord.won (r : PointRecord) (own : Addr) : PointRecord :=
  { state := .held, owner := some own, length := r.length,
    value := r.value.map fun v => { v with generation := 0 }, subscribed := r.subscribed, refreshTimer := some 0 }

/-- The claim window reaches P (R34). Expiry occurs in ACTIVE. -/
def State.claimWindowExpires (s : State) (p : PointId) : State :=
  let r := s.pt p
  if s.station = .active ∧ r.state = .claiming ∧ timerReached r.claimWindow s.period then
    let t := s.setPt p (r.won s.own)
    ({ t with
      heldCount := t.heldCount + 1
      claimingCount := t.claimingCount - 1
      tx := t.tx.publishId p }).offer (.claimWon p)
  else s

/-- CLAIM_WINDOW_EXPIRY. -/
def execClaimWindowExpiry (point : PointId) (s : State) : Host.Outcome State Fault Refusal :=
  .next (s.claimWindowExpires point)

/-- The refresh timer reaches P (R16): in ACTIVE the id is appended if absent; the timer stops. -/
def State.refreshExpires (s : State) (p : PointId) : State :=
  let r := s.pt p
  if r.state = .held ∧ timerReached r.refreshTimer s.period then
    match s.station with
    | .active => (s.setPt p { r with refreshTimer := none }).appendPublish p
    | .detached => s.setPt p { r with refreshTimer := none }
    | .offline | .listening | .leaving | .clashed => s
  else s

/-- REFRESH_TIMER_EXPIRY. -/
def execRefreshTimerExpiry (point : PointId) (s : State) : Host.Outcome State Fault Refusal :=
  .next (s.refreshExpires point)

/-- The stale timer reaches 3P (R70, R90). -/
def State.staleExpires (s : State) (p : PointId) : State :=
  let r := s.pt p
  if s.mirrorTimersRun ∧ (r.state = .mirror ∨ r.state = .disputed) ∧ timerReached r.staleTimer (3 * s.period) then
    match r.owner with
    | some x => s.goStale p x
    | none => s
  else s

/-- STALE_TIMER_EXPIRY. -/
def execStaleTimerExpiry (point : PointId) (s : State) : Host.Outcome State Fault Refusal :=
  .next (s.staleExpires point)

/-- The contender timer reaches 3P (R89). -/
def State.contenderExpires (s : State) (p : PointId) : State :=
  let r := s.pt p
  if s.mirrorTimersRun ∧ r.state = .disputed ∧ timerReached r.contenderTimer (3 * s.period) then s.dropContender p else s

/-- CONTENDER_TIMER_EXPIRY. -/
def execContenderTimerExpiry (point : PointId) (s : State) : Host.Outcome State Fault Refusal :=
  .next (s.contenderExpires point)

/-! ### Station timers -/

/-- The listen timer reaches 3P (R109). -/
def State.listenExpires (s : State) : State :=
  if s.station = .listening ∧ timerReached s.ctrl.listenTimer (3 * s.period) then s.enterActive else s

/-- LISTEN_TIMER_EXPIRY. -/
def execListenTimerExpiry (s : State) : Host.Outcome State Fault Refusal := .next s.listenExpires

/-- A PRESENCE request joins the control list, unless one waits or the list is full (R113). -/
def State.requestPresence (s : State) : State :=
  if Request.presence ∈ s.tx.control then s
  else if s.tx.full then s.countDropped .presence none
  else { s with tx := s.tx.append .presence }

/-- The presence timer reaches P and starts again (R113). -/
def State.presenceExpires (s : State) : State :=
  if (s.station = .active ∨ s.station = .detached) ∧ timerReached s.ctrl.presenceTimer s.period then
    { s with ctrl := { s.ctrl with presenceTimer := some 0 } }.requestPresence
  else s

/-- PRESENCE_TIMER_EXPIRY. -/
def execPresenceTimerExpiry (s : State) : Host.Outcome State Fault Refusal := .next s.presenceExpires

/-- The lease timer reaches its limit (R198). Where a host command that became complete was taken first, the timer has
restarted and the station stays ACTIVE. -/
def State.leaseExpires (s : State) : State :=
  if s.station = .active ∧ timerReached s.ctrl.leaseTimer s.ctrl.config.leaseLimit then s.enterDetached .lease else s

/-- LEASE_EXPIRY. -/
def execLeaseExpiry (s : State) : Host.Outcome State Fault Refusal := .next s.leaseExpires

/-! ### Roster timers -/

/-- The silence timer of a peer reaches 2P in PRESENT, and runs on (R125). -/
def State.silence2P (s : State) (x : Addr) : State :=
  let e := s.peer x
  if s.mirrorTimersRun ∧ e.state = .present ∧ timerReached e.silence (2 * s.period) then
    State.sweep (State.markDown x) ((s.setPeer x { e with state := .silent }).offer (.peerSilent x))
  else s

/-- SILENCE_TIMER_2P. -/
def execSilenceTimer2P (peer : Addr) (s : State) : Host.Outcome State Fault Refusal := .next (s.silence2P peer)

/-- The body items that remain of a frame whose source has gone are discarded; a roster item not yet taken, and what
follows it, stays (R143). -/
def Receiver.sourceGone (r : Receiver) (x : Addr) : Receiver :=
  match r.applying with
  | some a => if a.frame.source = x ∧ FrameItem.roster ∉ a.items then { r with applying := none } else r
  | none => r

/-- The silence timer of a peer reaches 5P in SILENT: GONE with cause TIMEOUT (R125 to R127, R143). -/
def State.silence5P (s : State) (x : Addr) : State :=
  let e := s.peer x
  if s.mirrorTimersRun ∧ e.state = .silent ∧ timerReached e.silence (5 * s.period) then
    let t := s.peerGone x .timeout
    { t with rx := t.rx.sourceGone x }
  else s

/-- SILENCE_TIMER_5P. -/
def execSilenceTimer5P (peer : Addr) (s : State) : Host.Outcome State Fault Refusal := .next (s.silence5P peer)

/-! ### A millisecond of time -/

/-- A timer that runs, one millisecond later. -/
def tickTimer (t : Option Nat) : Option Nat := t.map (· + 1)

/-- A record one millisecond later: its running timers and its age (R7, R15 to R18). -/
def PointRecord.tick (r : PointRecord) : PointRecord :=
  { r with
    age := r.age.map fun a => min (a + 1) Config.ageMax
    claimWindow := tickTimer r.claimWindow
    refreshTimer := tickTimer r.refreshTimer
    staleTimer := tickTimer r.staleTimer
    contenderTimer := tickTimer r.contenderTimer }

/-- The station timers one millisecond later. -/
def Controller.tick (c : Controller) : Controller :=
  { c with
    listenTimer := tickTimer c.listenTimer
    presenceTimer := tickTimer c.presenceTimer
    leaseTimer := tickTimer c.leaseTimer }

/-- A roster entry one millisecond later. -/
def PeerEntry.tick (e : PeerEntry) : PeerEntry := { e with silence := tickTimer e.silence }

/-- A command, when its timer stands at the limit. -/
def dueAt (t : Option Nat) (limit : Nat) (c : Instr) : List Instr := if t = some limit then [c] else []

/-- The commands of the timers that stand at their limits: the points in ascending order, then the station's, then the
roster's (log entry 3). -/
def State.dueTimers (s : State) : List Instr :=
  allPoints.flatMap (fun p =>
    let r := s.pt p
    dueAt r.claimWindow s.period (.claimWindowExpiry p) ++ dueAt r.refreshTimer s.period (.refreshTimerExpiry p) ++
    dueAt r.staleTimer (3 * s.period) (.staleTimerExpiry p) ++
    dueAt r.contenderTimer (3 * s.period) (.contenderTimerExpiry p)) ++
  dueAt s.ctrl.listenTimer (3 * s.period) .listenTimerExpiry ++
  dueAt s.ctrl.presenceTimer s.period .presenceTimerExpiry ++
  dueAt s.ctrl.leaseTimer s.ctrl.config.leaseLimit .leaseExpiry ++
  (List.finRange 32).flatMap fun x =>
    dueAt (s.peer x).silence (2 * s.period) (.silenceTimer2P x) ++
    dueAt (s.peer x).silence (5 * s.period) (.silenceTimer5P x)

/-- One millisecond passes on an empty queue (log entry 3): what runs advances, and the timers that reach their limits
queue their commands. No timer runs in OFFLINE, and in CLASHED every one holds (R19, R106, R120). -/
def State.tick (s : State) : State :=
  if s.station = .offline ∨ s.station = .clashed then s
  else
    let t := { s with
      ctrl := s.ctrl.tick
      points := s.points.map PointRecord.tick
      roster := s.roster.map PeerEntry.tick }
    { t with pending := t.dueTimers }

end Sys2Proof.Machine
end

