-- ==== Sys2Proof/Machine/Dispatch.lean ====
section
/-! DEFINITION. One arm per row of spec/opcode_table.json. -/

namespace Sys2Proof.Machine

def exec (i : Instr) (s : State) : Host.Outcome State Fault Refusal :=
  match i with
  | .reset => Sys2Proof.Machine.execReset s
  | .resetRelease address rate => Sys2Proof.Machine.execResetRelease address rate s
  | .csnFall => Sys2Proof.Machine.execCsnFall s
  | .csnRise => Sys2Proof.Machine.execCsnRise s
  | .commandComplete mosi => Sys2Proof.Machine.execCommandComplete mosi s
  | .getStation => Sys2Proof.Machine.execGetStation s
  | .configure => Sys2Proof.Machine.execConfigure s
  | .join => Sys2Proof.Machine.execJoin s
  | .leave => Sys2Proof.Machine.execLeave s
  | .resume => Sys2Proof.Machine.execResume s
  | .clearCondition => Sys2Proof.Machine.execClearCondition s
  | .readPoint => Sys2Proof.Machine.execReadPoint s
  | .writePoint => Sys2Proof.Machine.execWritePoint s
  | .claimPoint => Sys2Proof.Machine.execClaimPoint s
  | .releasePoint => Sys2Proof.Machine.execReleasePoint s
  | .recallPoint => Sys2Proof.Machine.execRecallPoint s
  | .subscribe => Sys2Proof.Machine.execSubscribe s
  | .unsubscribe => Sys2Proof.Machine.execUnsubscribe s
  | .readEvent => Sys2Proof.Machine.execReadEvent s
  | .readPeer => Sys2Proof.Machine.execReadPeer s
  | .lineIdleAfterSeeking => Sys2Proof.Machine.execLineIdleAfterSeeking s
  | .frameEnd => Sys2Proof.Machine.execFrameEnd s
  | .frameEndedWithoutCollision => Sys2Proof.Machine.execFrameEndedWithoutCollision s
  | .collision => Sys2Proof.Machine.execCollision s
  | .urgentSlot => Sys2Proof.Machine.execUrgentSlot s
  | .rankedSlot => Sys2Proof.Machine.execRankedSlot s
  | .frameProcessorTakesFrame => Sys2Proof.Machine.execFrameProcessorTakesFrame s
  | .rosterFrameItem => Sys2Proof.Machine.execRosterFrameItem s
  | .publishRecord => Sys2Proof.Machine.execPublishRecord s
  | .claimHeard => Sys2Proof.Machine.execClaimHeard s
  | .assertHeard => Sys2Proof.Machine.execAssertHeard s
  | .releaseHeard => Sys2Proof.Machine.execReleaseHeard s
  | .recallHeard => Sys2Proof.Machine.execRecallHeard s
  | .claimWindowExpiry point => Sys2Proof.Machine.execClaimWindowExpiry point s
  | .refreshTimerExpiry point => Sys2Proof.Machine.execRefreshTimerExpiry point s
  | .staleTimerExpiry point => Sys2Proof.Machine.execStaleTimerExpiry point s
  | .contenderTimerExpiry point => Sys2Proof.Machine.execContenderTimerExpiry point s
  | .listenTimerExpiry => Sys2Proof.Machine.execListenTimerExpiry s
  | .presenceTimerExpiry => Sys2Proof.Machine.execPresenceTimerExpiry s
  | .leaseExpiry => Sys2Proof.Machine.execLeaseExpiry s
  | .silenceTimer2P peer => Sys2Proof.Machine.execSilenceTimer2P peer s
  | .silenceTimer5P peer => Sys2Proof.Machine.execSilenceTimer5P peer s
  | .startBit => Sys2Proof.Machine.execStartBit s
  | .characterReceived octet stopHigh => Sys2Proof.Machine.execCharacterReceived octet stopHigh s
  | .spiOctetClocked mosi => Sys2Proof.Machine.execSpiOctetClocked mosi s
  | .unknownCommand => Sys2Proof.Machine.execUnknownCommand s

end Sys2Proof.Machine
end

