-- ==== Sys2Proof/Safety.lean ====
section
/-! DEFINITION. What holds of every state a run can reach: the shapes, bounds and agreements that the spec states of the
table, the lists, the queues, the roster and the line, each as a predicate on states; and the words in which the
statements about commands are put. -/

namespace Sys2Proof

/-- The row of the opcode table that takes the command in hand (R171, R175). -/
def HostCommand.rowOf : Option HostCommand → Instr
  | none => .unknownCommand
  | some .getStation => .getStation
  | some .configure => .configure
  | some .join => .join
  | some .leave => .leave
  | some .resume => .resume
  | some .clearCondition => .clearCondition
  | some .readPoint => .readPoint
  | some .writePoint => .writePoint
  | some .claimPoint => .claimPoint
  | some .releasePoint => .releasePoint
  | some .recallPoint => .recallPoint
  | some .subscribe => .subscribe
  | some .unsubscribe => .unsubscribe
  | some .readEvent => .readEvent
  | some .readPeer => .readPeer

end Sys2Proof

namespace Sys2Proof.Machine

/-! ### Commands one after the other, answers, and items in turn -/

/-- Commands taken one after the other. -/
def execAll : List Instr → State → Host.Outcome State Fault Refusal
  | [], s => .next s
  | c :: cs, s =>
    match exec c s with
    | .next t => execAll cs t
    | .fault f => .fault f
    | .refused r => .refused r

/-- The command in hand is `q`, with `rest` behind it; it is command `c` and passes the four checks of R175 that come
before its own. -/
def State.reaches (s : State) (c : HostCommand) (q : QueuedCommand) (rest : List QueuedCommand) : Prop :=
  s.host.queue = q :: rest ∧ q.code = c.code ∧
  (s.host.condition = none ∨ c.takenWhilePending = true) ∧ c.admitsCount q.count = true ∧
  c.admittedIn s.station = true

/-- The Host Port after the command in hand has been answered: the command has left the queue, and the transaction that
still waits presents the marker, the status, the data length and the data (R172, R173, R176). -/
def State.answered (s : State) (q : QueuedCommand) (rest : List QueuedCommand) (status : Status) (data : List Octet) :
    State :=
  { s with host := { s.host with
      port := if q.live then .answering (0xC3 :: status.code :: octetOf data.length :: data) else s.host.port
      queue := rest } }

/-- The Host Port after an exception answer: no data, and under strict discipline a condition record when none is
pending (R176, R192). -/
def State.excepted (s : State) (q : QueuedCommand) (rest : List QueuedCommand) (status : Status) : State :=
  { s with host := { s.host with
        port := if q.live then .answering [0xC3, status.code, 0x00] else s.host.port
        queue := rest
        condition :=
          if s.ctrl.config.discipline = .strict ∧ s.host.condition = none then
            some { status := status, command := q.code, subject := q.subject }
          else s.host.condition } }

/-- The next item of the frame `f` being applied is `item`, in a station state that takes items; `rest` follows. -/
def State.taking (s : State) (f : Frame) (item : FrameItem) (rest : List FrameItem) : Prop :=
  s.rx.applying = some { frame := f, items := item :: rest } ∧
  (s.station = .listening ∨ s.station = .active ∨ s.station = .detached)

/-- The item has been taken: `rest` is left of the frame, and after the last item the Frame Processor is idle (R142). -/
def State.itemTaken (s : State) (f : Frame) (rest : List FrameItem) : State :=
  { s with rx := { s.rx with applying := if rest = [] then none else some { frame := f, items := rest } } }

/-- The part after session end: the entry to OFFLINE (R29, R118). -/
def State.offlineAfter (s : State) (cause : Cause) : State :=
  { s with
    ctrl := { s.ctrl with
      state := .offline, cause := some cause, listenTimer := none, presenceTimer := none, leaseTimer := none
      freshStart := false }
    points := s.points.map fun r =>
      { state := .vacant, owner := none, claimant := none, contender := none, length := none, value := none
        age := none, phase := none, subscribed := r.subscribed, claimWindow := none, refreshTimer := none
        staleTimer := none, contenderTimer := none }
    heldCount := 0
    claimingCount := 0
    tx := { control := [], publish := [], frame := none, sequence := s.tx.sequence }
    line := { state := .off, octets := [], gap := none, lastSource := s.line.lastSource, ladder := none }
    rx := { fifo := [], applying := none }
    roster := Vector.replicate 32
      { state := .absent, detached := false, mismatch := false, announced := none, lastSeq := none, missed := 0
        silence := none }
    events := s.events.offer (.stationState .offline (some cause)) }

/-- The frame begins in the slot: it is in flight and the Line Interface is SENDING (R149, R150). -/
def State.sendingIn (s : State) (slot : Nat) (b : BuiltFrame) : State :=
  { s with
    tx := { s.tx with
      frame := some { frame := b.frame, attempts := b.attempts, place := .inFlight slot, withdrawn := b.withdrawn
                      readBack := 0 } }
    line := { s.line with state := .sending, gap := none, ladder := none } }

/-- A new frame with this body begins in the slot: it carries the own address and the next sequence number (R155). -/
def State.sendingNewIn (s : State) (slot : Nat) (body : Body) : State :=
  State.sendingIn { s with tx := { s.tx with sequence := s.tx.sequence + 1 } } slot
    { frame := { source := s.own, sequence := s.tx.sequence + 1, body := body }, attempts := 0
      place := .inFlight slot, withdrawn := false, readBack := 0 }

/-- Events about a point, posted one after the other when the point is subscribed (R206). -/
def State.telling (s : State) (p : PointId) (news : List Event) : State :=
  if (s.pt p).subscribed then { s with events := news.foldl EventQueue.offer s.events } else s

/-- The VACANT record, with the subscribed flag it keeps and the claimant given (R8). -/
def PointRecord.vacated (r : PointRecord) (claimant : Option Addr) : PointRecord :=
  { state := .vacant, owner := none, claimant := claimant, contender := none, length := none, value := none
    age := none, phase := none, subscribed := r.subscribed, claimWindow := none, refreshTimer := none
    staleTimer := none, contenderTimer := none }

/-- The MIRROR record of owner `y` right after a frame of `y` that brought a length and perhaps a value: the stale timer
starts, and a value has age 0 (R11, R17). -/
def PointRecord.mirrored (r : PointRecord) (y : Addr) (length : Option Nat) (value : Option Value) : PointRecord :=
  { state := .mirror, owner := some y, claimant := none, contender := none, length := length, value := value
    age := value.map fun _ => 0, phase := none, subscribed := r.subscribed, claimWindow := none
    refreshTimer := none, staleTimer := some 0, contenderTimer := none }

/-- The holder of a point defends it: an ASSERT request joins the control list unless one waits or an ASSERT of the point
is built, and with 16 requests waiting it is dropped, counted and reported; the id joins the publish list unless it is
there (R42, R44, R80). -/
def State.defended (s : State) (p : PointId) : State :=
  let built : Bool := match s.tx.frame with
    | some b =>
      match b.frame.body, b.place with
      | .assert q _, .inFlight _ | .assert q _, .retry _ => decide (q = p)
      | _, _ => false
    | none => false
  let listed : List PointId := if p ∈ s.tx.publish then s.tx.publish else s.tx.publish ++ [p]
  if Request.assert p ∈ s.tx.control ∨ built = true then { s with tx := { s.tx with publish := listed } }
  else if s.tx.control.length < 16 then
    { s with tx := { s.tx with control := s.tx.control ++ [.assert p], publish := listed } }
  else
    { s with
      tx := { s.tx with publish := listed }
      counters := { s.counters with
        txDropped := if s.counters.txDropped = 0xFFFF then 0xFFFF else s.counters.txDropped + 1 }
      events := s.events.offer (.txDropped .assert (some p)) }

/-- The row of the opcode table that takes an item. -/
def FrameItem.row : FrameItem → Instr
  | .roster => .rosterFrameItem
  | .record _ => .publishRecord
  | .claim _ => .claimHeard
  | .assert _ _ => .assertHeard
  | .release _ => .releaseHeard
  | .recall _ => .recallHeard

/-- The item is one by which its source acts as holder of a point: a PUBLISH record, which brings the length of its
octets and a value, or an ASSERT with a length of 1 to 8, which brings the length alone. -/
def FrameItem.holds (item : FrameItem) (p : PointId) (length : Nat) (value : Option Value) : Prop :=
  (∃ g octets, item = .record { point := p, generation := g, octets := octets } ∧ length = octets.length ∧
    value = some { octets := octets, generation := g }) ∨
  (∃ o : Octet, item = .assert p o ∧ 1 ≤ o.toNat ∧ o.toNat ≤ 8 ∧ length = o.toNat ∧ value = none)

/-- The POINT_CHANGED event that a value brings (R72). -/
def changedBy (p : PointId) (value : Option Value) : List Event :=
  match value with
  | some v => [.pointChanged p v.generation]
  | none => []

/-! ### Point records (R2 to R13) -/

/-- The length, when present, is 1 to 8, and a value has as many octets as the length says (R5, R6). -/
def PointRecord.valueFits (r : PointRecord) : Bool :=
  (match r.length with
    | some k => 1 ≤ k && k ≤ Config.valueMax
    | none => true) &&
  match r.value with
  | some v => r.length = some v.octets.length
  | none => true

/-- The optional address names a station other than `own`. -/
def namesOther (own : Addr) (a : Option Addr) : Bool := a.isSome && a ≠ some own

/-- The fields that a record carries in its state, and the timers it may run (the table of section 1.2). -/
def PointRecord.fits (own : Addr) (r : PointRecord) : Bool :=
  r.valueFits &&
  match r.state with
  | .vacant =>
      r.owner = none && r.claimant ≠ some own && r.contender = none && r.length = none && r.value = none &&
      r.age = none && r.phase = none && r.claimWindow = none && r.refreshTimer = none && r.staleTimer = none &&
      r.contenderTimer = none
  | .claiming =>
      r.owner = none && r.claimant = some own && r.contender = none && r.length.isSome &&
      r.value.map Value.generation = some 0 && r.age = none && r.phase.isSome &&
      (r.claimWindow = none || r.phase = some .window) && r.refreshTimer = none && r.staleTimer = none &&
      r.contenderTimer = none
  | .held =>
      r.owner = some own && r.claimant = none && r.contender = none && r.length.isSome && r.value.isSome &&
      r.age = none && r.phase = none && r.claimWindow = none && r.staleTimer = none && r.contenderTimer = none
  | .mirror =>
      namesOther own r.owner && r.claimant = none && r.contender = none && r.age.isSome = r.value.isSome &&
      r.phase = none && r.claimWindow = none && r.refreshTimer = none && r.staleTimer.isSome &&
      r.contenderTimer = none
  | .stale =>
      namesOther own r.owner && r.claimant ≠ some own && r.contender = none && r.age.isSome = r.value.isSome &&
      r.phase = none && r.claimWindow = none && r.refreshTimer = none && r.staleTimer = none &&
      r.contenderTimer = none
  | .disputed =>
      namesOther own r.owner && r.claimant = none && namesOther own r.contender &&
      (match r.owner, r.contender with
        | some x, some y => decide (x < y)
        | _, _ => false) &&
      r.age.isSome = r.value.isSome && r.phase = none && r.claimWindow = none && r.refreshTimer = none &&
      r.staleTimer.isSome && r.contenderTimer.isSome

/-- Every record carries the fields of its state. -/
def State.RecordsFit (s : State) : Prop := ∀ p, (s.pt p).fits s.own = true

/-- A received frame that was taken: its content is valid here and its source is another station (R134). -/
def State.frameFits (s : State) (f : Frame) : Bool := f.wf s.n && f.source ≠ s.own

/-- The frames that wait and the frame being applied were taken by the Frame Checker, the items left are items of that
frame, and none is there in OFFLINE, LEAVING and CLASHED (R134, R141, R142). -/
def State.ReceptionFits (s : State) : Prop :=
  (∀ f ∈ s.rx.fifo, s.frameFits f = true) ∧
  (∀ a, s.rx.applying = some a → s.frameFits a.frame = true ∧ a.items ≠ [] ∧ a.items <:+ a.frame.items s.own) ∧
  (s.takesFrames = false → s.rx.fifo = [] ∧ s.rx.applying = none)

/-! ### Counts and lists (R25, R57, R156) -/

/-- How many records are in a state. -/
def State.countOf (s : State) (st : PointState) : Nat := allPoints.countP fun p => (s.pt p).state = st

/-- The two counts are the numbers of HELD and CLAIMING records, within their bounds (R25). -/
def State.CountsAgree (s : State) : Prop :=
  s.heldCount = s.countOf .held ∧ s.claimingCount = s.countOf .claiming ∧
  s.claimingCount ≤ Config.claimLimit ∧ s.heldCount + s.claimingCount ≤ Config.holdLimit

/-- The publish list holds each id at most once and only ids of HELD points (R57). -/
def State.PublishListFits (s : State) : Prop :=
  s.tx.publish.Nodup ∧ ∀ p ∈ s.tx.publish, (s.pt p).state = .held

/-- The control list holds at most 16 requests and never two identical ones (R156). -/
def State.ControlListFits (s : State) : Prop :=
  s.tx.control.Nodup ∧ s.tx.control.length ≤ Config.controlCapacity

/-! ### Queues (R131, R140, R172, R204 to R210) -/

/-- The record is a POINT_CHANGED for the point. -/
def Event.isChangeOf (p : PointId) : Event → Bool
  | .pointChanged q _ => q = p
  | _ => false

/-- The record is an RX_OVERRUN. -/
def Event.isOverrun : Event → Bool
  | .rxOverrun _ => true
  | _ => false

/-- The counts that records carry are 1 to 255 (R205). -/
def Event.countFits : Event → Bool
  | .rxOverrun k | .eventsLost k => 1 ≤ k && k ≤ Config.countMax
  | _ => true

/-- The Event Queue holds at most 32 records, at most one POINT_CHANGED per point and one RX_OVERRUN; the lost-event
count is at most 255 and is not 0 only while the queue is full (R204, R205, R207, R210). -/
def EventQueue.Fits (q : EventQueue) : Prop :=
  q.records.length ≤ Config.eventCapacity ∧
  (∀ p, q.records.countP (Event.isChangeOf p) ≤ 1) ∧ q.records.countP Event.isOverrun ≤ 1 ∧
  (∀ e ∈ q.records, e.countFits = true) ∧
  q.lost ≤ Config.countMax ∧ (q.lost ≠ 0 → q.records.length = Config.eventCapacity)

/-- The other queues keep their capacities: the Receive FIFO 4 frames, the command queue 2 commands, the frame being
assembled 55 octets (R131, R140, R172). A transaction begins only while fewer than 2 commands wait (R173). Groups have been
read only for a GET STATION in hand that has not been answered (R172, R178). -/
def State.QueuesFit (s : State) : Prop :=
  s.rx.fifo.length ≤ Config.fifoDepth ∧ s.line.octets.length ≤ Config.frameMax ∧
  s.host.queue.length ≤ Config.commandDepth ∧
  (∀ c, s.host.port = .receiving c → s.host.queue.length < Config.commandDepth) ∧
  (s.host.reading = {} ∨
    (0 < s.host.reading.groups ∧ s.host.reading.groups < 7 ∧
      ∃ q rest, s.host.queue = q :: rest ∧ q.code = 0x01 ∧ q.count = 0))

/-! ### Roster (R2, R121) -/

/-- The optional fields of an entry by its state (R121). -/
def PeerEntry.fits (e : PeerEntry) : Bool :=
  e.missed ≤ Config.countMax &&
  match e.state with
  | .absent | .gone => !e.detached && !e.mismatch && e.announced = none && e.lastSeq = none && e.silence = none
  | .present | .silent => e.lastSeq.isSome && e.silence.isSome

/-- Every entry carries the fields of its state; only the addresses below N other than the own one are used, and none
in OFFLINE (R106, R121). -/
def State.RosterFits (s : State) : Prop :=
  ∀ x, (s.peer x).fits = true ∧ (s.hasPeer x = false ∨ s.station = .offline → (s.peer x).state = .absent)

/-- The peer is PRESENT or SILENT. -/
def State.peerKnown (s : State) (x : Addr) : Bool := (s.peer x).state = .present || (s.peer x).state = .silent

/-- The station named, if it is another one, is PRESENT or SILENT (R2). -/
def State.nameKnown (s : State) (a : Option Addr) : Bool :=
  match a with
  | some x => x = s.own || s.peerKnown x
  | none => true

/-- No record names as owner, claimant or contender a station whose roster entry is ABSENT or GONE (R2); and the source
of a frame whose roster item has been taken is PRESENT or SILENT while its body items wait (R21, R143). -/
def State.NamesKnown (s : State) : Prop :=
  (∀ p, s.nameKnown (s.pt p).owner = true ∧ s.nameKnown (s.pt p).claimant = true ∧
    s.nameKnown (s.pt p).contender = true) ∧
  ∀ a, s.rx.applying = some a → FrameItem.roster ∉ a.items → s.peerKnown a.frame.source = true

/-! ### Station, line and host port -/

/-- Which station timers run, and when the fresh-start marker may be set (R107, R109, R111, R113, R197). -/
def State.TimersFit (s : State) : Prop :=
  (s.ctrl.listenTimer.isSome = true ↔ s.station = .listening) ∧
  (s.ctrl.presenceTimer.isSome = true ↔ s.station = .active ∨ s.station = .detached) ∧
  (s.ctrl.leaseTimer.isSome = true ↔ s.station = .active ∧ s.ctrl.config.lease ≠ 0) ∧
  (s.ctrl.freshStart = true → s.station = .active ∨ s.station = .detached)

/-- A frame is in flight. -/
def Scheduler.flying (t : Scheduler) : Bool :=
  match t.frame with
  | some b =>
    match b.place with
    | .inFlight _ => true
    | .retry _ | .cutOff => false
  | none => false

/-- The Line Interface is OFF exactly in OFFLINE and SENDING exactly while a frame is in flight, which is in ACTIVE,
DETACHED or LEAVING; and a ladder runs exactly while it is IDLE, with slots 0 to N in a round, offered from the next round
at the latest (R106, R109, R131, R147, R150). -/
def State.LineFits (s : State) : Prop :=
  (s.line.state = .off ↔ s.station = .offline) ∧ (s.line.state = .sending ↔ s.tx.flying = true) ∧
  (s.tx.flying = true → s.station = .active ∨ s.station = .detached ∨ s.station = .leaving) ∧
  (s.line.ladder.isSome = true ↔ s.line.state = .idle) ∧
  ∀ l, s.line.ladder = some l → l.next ≤ s.n.toNat + 1 ∧ l.offeredFrom ≤ l.round + 1

/-- A condition record exists only under strict discipline and holds an exception status other than CONDITION_PENDING
(R191, R192). -/
def State.ConditionFits (s : State) : Prop :=
  ∀ c, s.host.condition = some c →
    s.ctrl.config.discipline = .strict ∧ c.status.isException = true ∧ c.status ≠ .conditionPending

/-- The Scheduler's work by station state: nothing in OFFLINE and LISTENING; ids on the publish list only in ACTIVE, and
frozen in CLASHED; a FAREWELL, waiting or built, only in LEAVING (R57, R116, R117, R157, R165). -/
def State.WorkFits (s : State) : Prop :=
  (s.station = .offline ∨ s.station = .listening → s.tx.control = [] ∧ s.tx.publish = [] ∧ s.tx.frame = none) ∧
  (s.tx.publish ≠ [] → s.station = .active ∨ s.station = .clashed) ∧
  (Request.farewell ∈ s.tx.control → s.station = .leaving) ∧
  ∀ b, s.tx.frame = some b → b.frame.body = .farewell → s.station = .leaving

end Sys2Proof.Machine
end

