-- ==== Sys2Proof/Certificates/Slice0/Obligations.lean ====
section
/-! DEFINITION. The statements for the provers. Each docstring names the rules of spec/ it formalises, and the log entry
where a clause rests on a choice of the model. A statement that gives a whole next state says with it that everything not
named in it is unchanged. -/

open Sys2Proof Sys2Proof.Machine

/-! ### One step of the block -/

/-- A step takes the command at the front of the queue, whole, with the queue's rest left (R20; the queue is the model's
own field). -/
def Obligations.StepTakesFrontCommand : Prop :=
  ∀ (c : Instr) (rest : List Instr) (s : State),
    step { s with pending := c :: rest } = exec c { s with pending := rest }

/-- Every command answers a next state in every state, and leaves the queue of commands as it is: an item is applied
completely (R20), and no rule stops the part (log entries 1 and 22). -/
def Obligations.EveryCommandAnswersNextState : Prop :=
  ∀ (c : Instr) (s : State), ∃ t, exec c s = .next t ∧ t.pending = s.pending

/-- The model's millisecond (log entry 3): with no command waiting, nothing changes in OFFLINE and CLASHED (R19, R106,
R120); in every other station state each running timer and each silence time advances by 1 ms, each age by 1 ms up to
65535 (R7), nothing else changes, and the expiry commands queued are those of the timers that stand at their limits: P,
3P, L x 50 ms, 2P and 5P (R15 to R18, R107, R113, R125, R197). -/
def Obligations.IdleStepIsAMillisecond : Prop :=
  ∀ s : State, s.pending = [] →
    (s.station = .offline ∨ s.station = .clashed → step s = .next s) ∧
    (s.station ≠ .offline → s.station ≠ .clashed → ∃ t, step s = .next t ∧
      t = { s with ctrl := t.ctrl, points := t.points, roster := t.roster, pending := t.pending } ∧
      t.ctrl = { s.ctrl with
        listenTimer := s.ctrl.listenTimer.map (· + 1)
        presenceTimer := s.ctrl.presenceTimer.map (· + 1)
        leaseTimer := s.ctrl.leaseTimer.map (· + 1) } ∧
      (∀ p, t.pt p = { s.pt p with
        age := (s.pt p).age.map fun a => min (a + 1) 65535
        claimWindow := (s.pt p).claimWindow.map (· + 1)
        refreshTimer := (s.pt p).refreshTimer.map (· + 1)
        staleTimer := (s.pt p).staleTimer.map (· + 1)
        contenderTimer := (s.pt p).contenderTimer.map (· + 1) }) ∧
      (∀ x, t.peer x = { s.peer x with silence := (s.peer x).silence.map (· + 1) }) ∧
      ∀ c, c ∈ t.pending ↔
        (∃ p, c = .claimWindowExpiry p ∧ (t.pt p).claimWindow = some s.period) ∨
        (∃ p, c = .refreshTimerExpiry p ∧ (t.pt p).refreshTimer = some s.period) ∨
        (∃ p, c = .staleTimerExpiry p ∧ (t.pt p).staleTimer = some (3 * s.period)) ∨
        (∃ p, c = .contenderTimerExpiry p ∧ (t.pt p).contenderTimer = some (3 * s.period)) ∨
        (c = .listenTimerExpiry ∧ t.ctrl.listenTimer = some (3 * s.period)) ∨
        (c = .presenceTimerExpiry ∧ t.ctrl.presenceTimer = some s.period) ∨
        (c = .leaseExpiry ∧ t.ctrl.leaseTimer = some (50 * s.ctrl.config.lease.toNat)) ∨
        (∃ x, c = .silenceTimer2P x ∧ (t.peer x).silence = some (2 * s.period)) ∨
        ∃ x, c = .silenceTimer5P x ∧ (t.peer x).silence = some (5 * s.period))

/-! ### Reset -/

/-- RESET clears the part, and the release that follows samples the straps: every record is VACANT with no claimant and
its subscribed flag false, no timer runs, the counts are 0, no event is posted and the configuration is at its defaults
(R28, R54, R78, R105); every roster entry is ABSENT (R121); the counters are 0 and reception is empty with the Line
Interface OFF (R139, R145); the lists are empty, the sequence register is 0 and the last source 31 (R169); the Host Port
is IDLE with no command and no condition record (R190, R203); and the Event Queue is empty (R214). The level of CSn and
the straps before the release are left open: the spec gives them no value (log entries 5 and 6). The queue of commands
and the lists of breaks and of slots before a clash are the model's own fields, the sender's; that RESET leaves them as
they are is the model's choice (log entries 8, 13 and 17). -/
def Obligations.ResetClearsThePart : Prop :=
  ∀ (s : State) (address : BitVec 5) (rate : BitVec 2),
    let cleared (csnHigh inReset : Bool) (straps : Straps) : State :=
      { pins := { csnHigh := csnHigh, inReset := inReset, miso := none }
        straps := straps
        ctrl :=
          { state := .offline, cause := none
            config := { n := .n32, pUnits := 10, lease := 0, discipline := .strict }
            locked := false, listenTimer := none, presenceTimer := none, leaseTimer := none, freshStart := false }
        points := Vector.replicate 256
          { state := .vacant, owner := none, claimant := none, contender := none, length := none, value := none
            age := none, phase := none, subscribed := false, claimWindow := none, refreshTimer := none
            staleTimer := none, contenderTimer := none }
        heldCount := 0
        claimingCount := 0
        counters :=
          { framingErrors := 0, crcErrors := 0, invalidFrames := 0, duplicates := 0, overruns := 0, collisions := 0
            txDropped := 0, recordsOld := 0, recordsRejected := 0 }
        tx := { control := [], publish := [], frame := none, sequence := 0 }
        line := { state := .off, octets := [], gap := none, lastSource := 31, ladder := none }
        rx := { fifo := [], applying := none }
        roster := Vector.replicate 32
          { state := .absent, detached := false, mismatch := false, announced := none, lastSeq := none, missed := 0
            silence := none }
        host := { port := .idle, queue := [], reading := {}, condition := none }
        events := { records := [], lost := 0 }
        pending := s.pending
        breaks := s.breaks
        slotFirst := s.slotFirst }
    ∃ csnHigh straps, exec .reset s = .next (cleared csnHigh true straps) ∧
      execAll [.reset, .resetRelease address rate] s =
        .next (cleared csnHigh false { own := address.toFin, rate := rate })

/-- RESET_RELEASE samples ADDR4..0 as the own address and RATE1..0 as the line rate (R101) and starts the station OFFLINE
with the default configuration (R102). That a release taken without a reset before it clears the part as well is the
model's choice (log entry 7). -/
def Obligations.ReleaseSamplesTheStraps : Prop :=
  ∀ (s : State) (address : BitVec 5) (rate : BitVec 2),
    exec (.resetRelease address rate) s = execAll [.reset, .resetRelease address rate] s ∧
    ∃ t, exec (.resetRelease address rate) s = .next t ∧ t.straps.own.val = address.toNat ∧ t.straps.rate = rate ∧
      t.pins.inReset = false ∧ t.ctrl.state = .offline ∧
      t.ctrl.config = { n := .n32, pUnits := 10, lease := 0, discipline := .strict } ∧ t.ctrl.locked = false

/-- The state after reset has every invariant stated below, before and after the release of reset with any strap levels.
It rests on the model's choices for the straps and CSn at power-on (log entries 5 and 6). -/
def Obligations.ResetStateHasTheInvariants : Prop :=
  ∀ s : State, s = State.reset ∨ (∃ address rate, exec (.resetRelease address rate) State.reset = .next s) →
    s.RecordsFit ∧ s.ReceptionFits ∧ s.CountsAgree ∧ s.PublishListFits ∧ s.ControlListFits ∧ s.events.Fits ∧
    s.QueuesFit ∧ s.RosterFits ∧ s.NamesKnown ∧ s.TimersFit ∧ s.LineFits ∧ s.ConditionFits ∧ s.WorkFits

/-! ### The SPI port -/

/-- CSN_FALL begins a transaction: RECEIVING with wait octets while fewer than 2 commands wait, IGNORING with fill octets
while 2 wait (R173, R174). CSN_RISE ends whatever the transaction was doing: the port is IDLE, MISO is at high impedance,
and every command in the queue stays there, its answer to be discarded (R170, R173). That the first octet is on MISO from
the fall of CSn is the model's reading of the moment (log entry 11). -/
def Obligations.ChipSelectBeginsAndEndsTransactions : Prop :=
  ∀ s : State,
    (s.pins.csnHigh = true → s.pins.inReset = false → s.host.queue.length < 2 →
      exec .csnFall s = .next { s with
        pins := { s.pins with csnHigh := false, miso := some 0x00 }
        host := { s.host with port := .receiving { code := none, count := none, kept := [], received := 0 } } }) ∧
    (s.pins.csnHigh = true → s.pins.inReset = false → 2 ≤ s.host.queue.length →
      exec .csnFall s = .next { s with
        pins := { s.pins with csnHigh := false, miso := some 0xFF }
        host := { s.host with port := .ignoring } }) ∧
    exec .csnRise s = .next { s with
      pins := { s.pins with csnHigh := true, miso := none }
      host := { s.host with port := .idle, queue := s.host.queue.map fun q => { q with live := false } } }

/-- The octets of a command, clocked in from the start of a transaction, become one queued command when the last octet
that the count announces arrives: it joins the queue at the tail, the lease restarts from zero in ACTIVE where L is not
0, the port is WAITING, and wait octets go on (R170, R171, R173, R197). The parameter octets kept are as many as the
command's form admits, and none for a command octet that names no command (log entry 12). The last octet may come as
SPI_OCTET_CLOCKED or as COMMAND_COMPLETE (log entry 11). -/
def Obligations.OctetsFormOneCommand : Prop :=
  ∀ (s : State) (code count : Octet) (params before : List Octet) (last : Octet),
    s.host.port = .receiving { code := none, count := none, kept := [], received := 0 } →
    params.length = count.toNat → code :: count :: params = before ++ [last] →
    let kept := match HostCommand.ofCode code with
      | some c => params.take c.maxParams
      | none => []
    let t : State := { s with
      host := { s.host with
        port := .waiting
        queue := s.host.queue ++ [{ code := code, count := count, params := kept, live := true }] }
      ctrl :=
        if s.station = .active then
          { s.ctrl with leaseTimer := if s.ctrl.config.lease = 0 then none else some 0 }
        else s.ctrl
      pins := { s.pins with miso := some 0x00 } }
    execAll (before.map .spiOctetClocked ++ [.commandComplete last]) s = .next t ∧
    execAll ((code :: count :: params).map .spiOctetClocked) s = .next t

/-- The octets of an answer are presented in turn, one for each octet clocked, whatever comes on MOSI; after the last one
fill octets follow, and while the answer is not ready wait octets (R170, R173, R174). That each octet is put on MISO when
the octet before it is complete is the model's choice of the moment (log entry 11). -/
def Obligations.AnswerIsPresentedInOrder : Prop :=
  ∀ (s : State) (sent rest mosi : List Octet) (o : Octet),
    (s.host.port = .answering (sent ++ rest) → mosi.length = sent.length →
      execAll (mosi.map .spiOctetClocked) s = .next { s with
        host := { s.host with port := .answering rest }
        pins := { s.pins with miso := match sent.getLast? with
          | some x => some x
          | none => s.pins.miso } }) ∧
    (s.host.port = .answering [] → exec (.spiOctetClocked o) s = .next { s with
      host := { s.host with port := .finished }
      pins := { s.pins with miso := some 0xFF } }) ∧
    (s.host.port = .finished ∨ s.host.port = .ignoring →
      exec (.spiOctetClocked o) s = .next { s with pins := { s.pins with miso := some 0xFF } }) ∧
    (s.host.port = .waiting →
      exec (.spiOctetClocked o) s = .next { s with pins := { s.pins with miso := some 0x00 } })

/-! ### Judging the command in hand -/

/-- While a condition record is pending, any command in hand but GET STATION, CLEAR CONDITION and RESUME, known or not,
is refused with CONDITION_PENDING and changes nothing of its own; the record is kept. In ACTIVE the refusal is a
violation that makes the station enter DETACHED with cause DISCIPLINE before the answer is composed; in every other
station state it has no result beyond the refusal (R193, R194). -/
def Obligations.PendingConditionRefusesCommands : Prop :=
  ∀ (s : State) (q : QueuedCommand) (rest : List QueuedCommand),
    s.host.queue = q :: rest → s.host.condition.isSome = true →
    q.code ≠ 0x01 → q.code ≠ 0x05 → q.code ≠ 0x06 →
    exec (HostCommand.rowOf (HostCommand.ofCode q.code)) s = .next
      ((if s.station = .active then s.enterDetached .discipline else s).answered q rest .conditionPending [])

/-- Checks 2 to 4 of R175, in their order: an octet that names no command answers UNKNOWN_COMMAND, a count that the
command does not admit BAD_LENGTH, and a station state that does not admit the command BAD_STATE. Each leaves everything
but the Host Port unchanged, and under strict discipline creates a condition record when none is pending (R192). RESUME's
BAD_STATE is stated apart. -/
def Obligations.PortChecksRefuseInOrder : Prop :=
  ∀ (s : State) (q : QueuedCommand) (rest : List QueuedCommand), s.host.queue = q :: rest →
    (s.host.condition = none → HostCommand.ofCode q.code = none →
      exec .unknownCommand s = .next (s.excepted q rest .unknownCommand)) ∧
    ∀ c, HostCommand.ofCode q.code = some c → s.host.condition = none ∨ c.takenWhilePending = true →
      (c.admitsCount q.count = false →
        exec (HostCommand.rowOf (some c)) s = .next (s.excepted q rest .badLength)) ∧
      (c.admitsCount q.count = true → c.admittedIn s.station = false → c ≠ .resume →
        exec (HostCommand.rowOf (some c)) s = .next (s.excepted q rest .badState))

/-- The tables of the host commands: codes (R217), the counts admitted (R171), the commands each station state admits
(R177), the commands taken while a record is pending (R193), those whose first parameter a record keeps (R192), and the
status codes (R176). -/
def Obligations.HostCommandTables : Prop :=
  HostCommand.all.map (fun c => (c.code, c.minParams, c.maxParams)) =
    [(0x01, 0, 0), (0x02, 5, 5), (0x03, 0, 0), (0x04, 0, 0), (0x05, 0, 0), (0x06, 0, 0), (0x10, 1, 1), (0x11, 1, 9),
      (0x12, 2, 10), (0x13, 1, 1), (0x14, 1, 1), (0x15, 3, 3), (0x16, 3, 3), (0x20, 0, 0), (0x21, 1, 1)] ∧
  (∀ c, HostCommand.ofCode c.code = some c) ∧
  HostCommand.all.filter (·.admittedIn .offline) =
    [.getStation, .configure, .join, .clearCondition, .readPoint, .subscribe, .unsubscribe, .readEvent, .readPeer] ∧
  HostCommand.all.filter (·.admittedIn .listening) =
    [.getStation, .leave, .clearCondition, .readPoint, .subscribe, .unsubscribe, .readEvent, .readPeer] ∧
  HostCommand.all.filter (fun c => !c.admittedIn .active) = [.configure, .join, .resume] ∧
  HostCommand.all.filter (·.admittedIn .detached) =
    [.getStation, .leave, .resume, .clearCondition, .readPoint, .releasePoint, .subscribe, .unsubscribe, .readEvent,
      .readPeer] ∧
  HostCommand.all.filter (·.admittedIn .leaving) =
    [.getStation, .clearCondition, .readPoint, .readEvent, .readPeer] ∧
  HostCommand.all.filter (·.admittedIn .clashed) =
    [.getStation, .leave, .clearCondition, .readPoint, .readEvent, .readPeer] ∧
  HostCommand.all.filter (·.takenWhilePending) = [.getStation, .resume, .clearCondition] ∧
  HostCommand.all.filter (·.namesSubject) =
    [.readPoint, .writePoint, .claimPoint, .releasePoint, .recallPoint, .subscribe, .unsubscribe, .readPeer] ∧
  [Status.ok, .empty, .badState, .notHolder, .badPoint, .badLength, .limit, .listFull, .badConfig, .configLocked,
    .conditionPending, .unknownCommand, .badAddress].map Status.code =
    [0x00, 0x01, 0x81, 0x82, 0x83, 0x84, 0x85, 0x86, 0x87, 0x88, 0x89, 0x8A, 0x8B]

/-- CLEAR CONDITION returns the pending record as its data and clears it, or answers EMPTY and changes nothing (R182). -/
def Obligations.ConditionRecordIsCleared : Prop :=
  ∀ (s : State) (q : QueuedCommand) (rest : List QueuedCommand), s.reaches .clearCondition q rest →
    (∀ c, s.host.condition = some c →
      exec .clearCondition s = .next (State.answered { s with host := { s.host with condition := none } } q rest .ok
        [c.status.code, c.command, if c.subject.isSome then 0x01 else 0x00, c.subject.getD 0x00])) ∧
    (s.host.condition = none → exec .clearCondition s = .next (s.answered q rest .empty []))

/-! ### Reading -/

/-- GET STATION, READ POINT and READ PEER answer OK with their data and change nothing (R178, R183, R188); READ PEER of
the own address or of an address of N or more answers BAD_ADDRESS (R188). GET STATION reads its groups in their order.
Without a break it composes the answer, each field as it stood at its own read; with a break before the counters it
keeps what the blocks of the groups up to the break show now, with what was read before, and stays in hand, so that
other items may come between (R178). That the sender gives the breaks in a field of the model is log entry 13. A
parameter count other than 0 is BAD_LENGTH and takes no break (R171). -/
def Obligations.ReadCommandsChangeNothing : Prop :=
  ∀ (s : State) (q : QueuedCommand) (rest : List QueuedCommand),
    (s.reaches .getStation q rest → ∀ (last : StationGroup) (more : List StationGroup),
      let old := s.host.reading.report
      let now (g : StationGroup) : Bool := decide (s.host.reading.groups ≤ g.index ∧ g.index ≤ last.index)
      let report : StationReport :=
        { state := if now .station then s.station else old.state
          cause := if now .station then s.ctrl.cause else old.cause
          straps := if now .straps then s.straps else old.straps
          config := if now .configuration then s.ctrl.config else old.config
          locked := if now .configuration then s.ctrl.locked else old.locked
          held := if now .table then s.heldCount else old.held
          claiming := if now .table then s.claimingCount else old.claiming
          published := if now .transmit then s.tx.publish.length else old.published
          requests := if now .transmit then s.tx.control.length else old.requests
          events := if now .host then s.events.records.length else old.events
          lost := if now .host then s.events.lost else old.lost
          conditionPending := if now .host then s.host.condition.isSome else old.conditionPending
          counters := if now .counters then s.counters else old.counters }
      (s.breaks = last :: more → last ≠ .counters → exec .getStation s = .next { s with
        host := { s.host with
          reading := { groups := max s.host.reading.groups (last.index + 1), report := report } }
        breaks := more }) ∧
      (s.breaks = last :: more → last = .counters → exec .getStation s = .next (State.answered { s with
        host := { s.host with reading := {} }, breaks := more } q rest .ok report.data)) ∧
      (s.breaks = [] → last = .counters → exec .getStation s = .next (State.answered { s with
        host := { s.host with reading := {} } } q rest .ok report.data))) ∧
    (s.host.queue = q :: rest → q.code = 0x01 → q.count ≠ 0 →
      exec .getStation s = .next (s.excepted q rest .badLength)) ∧
    (∀ p more, s.reaches .readPoint q rest → q.params = pointOctet p :: more →
      exec .readPoint s = .next (s.answered q rest .ok (s.pointData p))) ∧
    (∀ o more, s.reaches .readPeer q rest → q.params = o :: more →
      (∀ x : Addr, o.toNat = x.val → x.val < s.n.toNat → x ≠ s.own →
        exec .readPeer s = .next (s.answered q rest .ok (s.peerData x))) ∧
      (s.n.toNat ≤ o.toNat ∨ o.toNat = s.own.val →
        exec .readPeer s = .next (s.excepted q rest .badAddress)))

/-- The order of GET STATION's groups (R178), and the layouts of the answers' data, octet by octet: GET STATION and READ
POINT (R217), READ PEER (R218) and READ EVENT
(R219). Absent fields are sent as 0x00 with their presence bit clear. -/
def Obligations.AnswerLayouts : Prop :=
  let bit (b : Bool) (k : Nat) : Nat := if b then 2 ^ k else 0
  let two (w : BitVec 16) : List Octet := [w.extractLsb' 8 8, w.extractLsb' 0 8]
  let addr (a : Option Addr) : Octet := match a with
    | some x => BitVec.ofNat 8 x.val
    | none => 0x00
  (StationGroup.all = [.station, .straps, .configuration, .table, .transmit, .host, .counters] ∧
    StationGroup.all.map StationGroup.index = [0, 1, 2, 3, 4, 5, 6]) ∧
  (∀ r : StationReport,
    r.data =
      [r.state.code, (match r.cause with | some c => c.code | none => 0x00), BitVec.ofNat 8 r.straps.own.val,
        BitVec.ofNat 8 r.straps.rate.toNat, BitVec.ofNat 8 r.config.n.toNat, r.config.pUnits, r.config.lease,
        r.config.discipline.code, BitVec.ofNat 8 (bit r.locked 0 + bit r.conditionPending 1),
        BitVec.ofNat 8 r.held, BitVec.ofNat 8 r.claiming, BitVec.ofNat 8 r.published,
        BitVec.ofNat 8 r.requests, BitVec.ofNat 8 r.events, BitVec.ofNat 8 r.lost] ++
      two r.counters.framingErrors ++ two r.counters.crcErrors ++ two r.counters.invalidFrames ++
      two r.counters.duplicates ++ two r.counters.overruns ++ two r.counters.collisions ++ two r.counters.txDropped ++
      two r.counters.recordsOld ++ two r.counters.recordsRejected) ∧
  (∀ (s : State) (p : PointId), let r := s.pt p
    s.pointData p =
      [BitVec.ofNat 8 p.val, r.state.code,
        BitVec.ofNat 8 (bit r.subscribed 0 + bit (decide (r.state = .held ∧ p ∈ s.tx.publish)) 1),
        BitVec.ofNat 8 (bit r.owner.isSome 0 + bit r.claimant.isSome 1 + bit r.contender.isSome 2 +
          bit r.length.isSome 3 + bit r.value.isSome 4 + bit r.age.isSome 5 + bit r.phase.isSome 6),
        addr r.owner, addr r.claimant, addr r.contender,
        (match r.length with | some k => BitVec.ofNat 8 k | none => 0x00),
        (match r.phase with | some f => f.code | none => 0x00)] ++
      two (match r.value with | some v => v.generation | none => 0) ++
      two (match r.age with | some a => BitVec.ofNat 16 a | none => 0) ++
      (match r.value with
        | some v => (v.octets ++ [0, 0, 0, 0, 0, 0, 0, 0]).take 8
        | none => [0, 0, 0, 0, 0, 0, 0, 0])) ∧
  (∀ (s : State) (x : Addr), let e := s.peer x
    s.peerData x =
      [BitVec.ofNat 8 x.val, e.state.code, BitVec.ofNat 8 (bit e.detached 0 + bit e.mismatch 1),
        BitVec.ofNat 8 (bit e.announced.isSome 0 + bit e.lastSeq.isSome 1 + bit e.silence.isSome 2)] ++
      (match e.announced with
        | some a => [BitVec.ofNat 8 a.held, BitVec.ofNat 8 a.n.toNat, a.pUnits]
        | none => [0x00, 0x00, 0x00]) ++
      [(match e.lastSeq with | some q => q | none => 0x00), BitVec.ofNat 8 e.missed] ++
      two (match e.silence with | some t => BitVec.ofNat 16 (min t 65535) | none => 0)) ∧
  (∀ (p : PointId) (x y : Addr) (g : Generation) (old new : Option Addr) (k : Nat) (n : SegmentSize) (u : Octet),
    let pt := BitVec.ofNat 8 p.val
    let xo := BitVec.ofNat 8 x.val
    let yo := BitVec.ofNat 8 y.val
    let ko := BitVec.ofNat 8 k
    (Event.pointChanged p g).data = [0x01, 0x00, pt] ++ two g ∧
    (Event.pointStale p x).data = [0x02, 0x00, pt, xo] ∧
    (Event.ownerChanged p old new).data =
      [0x03, BitVec.ofNat 8 (bit old.isSome 0 + bit new.isSome 1), pt, addr old, addr new] ∧
    (Event.disputeSeen p x y).data = [0x04, 0x00, pt, xo, yo] ∧
    (Event.claimWon p).data = [0x05, 0x00, pt] ∧
    (∀ c, (Event.claimLost p c new).data = [0x06, BitVec.ofNat 8 (bit new.isSome 0), pt, c.code, addr new]) ∧
    (∀ c, (Event.ownershipLost p c new).data = [0x07, BitVec.ofNat 8 (bit new.isSome 0), pt, c.code, addr new]) ∧
    (Event.peerJoined x).data = [0x10, 0x00, xo] ∧ (Event.peerReturned x).data = [0x11, 0x00, xo] ∧
    (Event.peerRestarted x).data = [0x12, 0x00, xo] ∧ (Event.peerSilent x).data = [0x13, 0x00, xo] ∧
    (Event.peerDetached x).data = [0x14, 0x00, xo] ∧ (Event.peerResumed x).data = [0x15, 0x00, xo] ∧
    (∀ c, (Event.peerGone x c).data = [0x16, 0x00, xo, c.code]) ∧
    (Event.peerMismatch x n u).data = [0x17, 0x00, xo, BitVec.ofNat 8 n.toNat, u] ∧
    (∀ st, (Event.stationState st none).data = [0x20, 0x00, st.code, 0x00] ∧
      ∀ c : Cause, (Event.stationState st (some c)).data = [0x20, 0x01, st.code, c.code]) ∧
    (Event.rxOverrun k).data = [0x21, 0x00, ko] ∧
    (∀ kind, (Event.txDropped kind none).data = [0x22, 0x00, kind.code, 0x00] ∧
      (Event.txDropped kind (some p)).data = [0x22, 0x01, kind.code, pt]) ∧
    (Event.eventsLost k).data = [0x23, 0x00, ko]) ∧
  [StationState.offline, .listening, .active, .detached, .leaving, .clashed].map StationState.code =
    [0x00, 0x01, 0x02, 0x03, 0x04, 0x05] ∧
  [Cause.host, .listenDone, .lease, .discipline, .clash, .leaveDone].map Cause.code =
    [0x01, 0x02, 0x03, 0x04, 0x05, 0x06] ∧
  [Discipline.strict, .lenient].map Discipline.code = [0x00, 0x01] ∧
  [PointState.vacant, .claiming, .held, .mirror, .stale, .disputed].map PointState.code =
    [0x00, 0x01, 0x02, 0x03, 0x04, 0x05] ∧
  [ClaimPhase.requested, .sending, .window].map ClaimPhase.code = [0x01, 0x02, 0x03] ∧
  [PeerState.absent, .present, .silent, .gone].map PeerState.code = [0x00, 0x01, 0x02, 0x03] ∧
  [ClaimLoss.contended, .asserted, .published, .txFailed, .detached].map ClaimLoss.code =
    [0x01, 0x02, 0x03, 0x04, 0x05] ∧
  [OwnershipLoss.lowerAddress, .yieldedDetached].map OwnershipLoss.code = [0x01, 0x02] ∧
  [GoneCause.timeout, .farewell].map GoneCause.code = [0x01, 0x02]

/-! ### Station commands -/

/-- CONFIGURE: outside OFFLINE BAD_STATE; once the configuration is locked CONFIG_LOCKED; with a value out of range
BAD_CONFIG; otherwise the four settings are replaced together, the configuration is locked, and with subscribe-all every
point's subscribed flag is set. A refused CONFIGURE changes no setting, flag or lock (R103). -/
def Obligations.ConfigureSetsTheConfigurationOnce : Prop :=
  ∀ (s : State) (q : QueuedCommand) (rest : List QueuedCommand) (n p l d a : Octet),
    s.host.queue = q :: rest → q.code = 0x02 → q.count = 5 → q.params = [n, p, l, d, a] →
    s.host.condition = none →
    let sizeOk := n = 4 ∨ n = 8 ∨ n = 16 ∨ n = 32
    let periodOk := 2 ≤ p.toNat ∧ p.toNat ≤ 200
    let switchesOk := (d = 0 ∨ d = 1) ∧ (a = 0 ∨ a = 1)
    (s.station ≠ .offline → exec .configure s = .next (s.excepted q rest .badState)) ∧
    (s.station = .offline → s.ctrl.locked = true → exec .configure s = .next (s.excepted q rest .configLocked)) ∧
    (s.station = .offline → s.ctrl.locked = false → ¬ (sizeOk ∧ periodOk ∧ switchesOk) →
      exec .configure s = .next (s.excepted q rest .badConfig)) ∧
    (s.station = .offline → s.ctrl.locked = false → periodOk → switchesOk →
      ∀ size : SegmentSize, n.toNat = size.toNat →
        exec .configure s = .next (State.answered { s with
          ctrl := { s.ctrl with
            config := { n := size, pUnits := p, lease := l, discipline := if d = 0 then .strict else .lenient }
            locked := true }
          points := if a = 1 then s.points.map (fun r => { r with subscribed := true }) else s.points
          } q rest .ok []))

/-- JOIN: with the own address below N it locks the configuration, empties the roster, sets the last source to N - 1,
starts the listen timer, and enters LISTENING with cause HOST, posting STATION_STATE; the Line Interface waits for 2 ct
of idle line. Otherwise it answers BAD_CONFIG and changes nothing (R107). -/
def Obligations.JoinBeginsListening : Prop :=
  ∀ (s : State) (q : QueuedCommand) (rest : List QueuedCommand), s.reaches .join q rest →
    (s.own.val < s.n.toNat → exec .join s = .next (State.answered { s with
      ctrl := { s.ctrl with
        state := .listening, cause := some .host, locked := true, listenTimer := some 0 }
      roster := Vector.replicate 32
        { state := .absent, detached := false, mismatch := false, announced := none, lastSeq := none, missed := 0
          silence := none }
      line := { state := .seeking, octets := [], gap := some 0, lastSource := Fin.ofNat 32 (s.n.toNat - 1)
                ladder := none }
      events := s.events.offer (.stationState .listening (some .host)) } q rest .ok [])) ∧
    (s.n.toNat ≤ s.own.val → exec .join s = .next (s.excepted q rest .badConfig))

/-- LEAVE in LISTENING or CLASHED ends the session at once: every record becomes VACANT with its subscribed flag kept and
every timer stopped, the counts become 0, the roster ABSENT, the lists and the built frame are discarded, the FIFO is
flushed, the Line Interface is OFF, and STATION_STATE is posted; the queue of events, the configuration, the counters and
the sequence register are kept (R115, R118, R29). -/
def Obligations.LeaveEndsTheSession : Prop :=
  ∀ (s : State) (q : QueuedCommand) (rest : List QueuedCommand), s.reaches .leave q rest →
    s.station = .listening ∨ s.station = .clashed →
    exec .leave s = .next ((s.offlineAfter .host).answered q rest .ok [])

/-- LEAVE in ACTIVE or DETACHED enters LEAVING: the lists and a retry frame are discarded, the FAREWELL is the one
request, a frame on the line runs to its end and will not be retried, the FIFO is flushed, the fresh-start marker is
cleared, the presence and lease timers stop, and the claim windows and refresh timers stop with every record otherwise
kept (R116). -/
def Obligations.LeaveEntersLeaving : Prop :=
  ∀ (s : State) (q : QueuedCommand) (rest : List QueuedCommand), s.reaches .leave q rest →
    s.station = .active ∨ s.station = .detached →
    exec .leave s = .next (State.answered { s with
      ctrl := { s.ctrl with
        state := .leaving, cause := some .host, presenceTimer := none, leaseTimer := none, freshStart := false }
      points := s.points.map fun r => { r with claimWindow := none, refreshTimer := none }
      tx := { s.tx with
        control := [.farewell]
        publish := []
        frame := match s.tx.frame with
          | some { frame := f, attempts := k, place := .inFlight slot, withdrawn := _, readBack := c } =>
              some { frame := f, attempts := k, place := .inFlight slot, withdrawn := true, readBack := c }
          | _ => none }
      rx := { fifo := [], applying := none }
      events := s.events.offer (.stationState .leaving (some .host)) } q rest .ok [])

/-- RESUME in DETACHED clears a pending record, returns the station to ACTIVE with cause HOST, starts the lease where L
is not 0, and appends every HELD point to the publish list in ascending order, each only if absent (R201). In any other
station state it answers BAD_STATE and changes nothing besides the pending record, which it clears (R195, R201). -/
def Obligations.ResumeReturnsToActive : Prop :=
  ∀ (s : State) (q : QueuedCommand) (rest : List QueuedCommand), s.host.queue = q :: rest → q.code = 0x05 →
    q.count = 0 →
    let cleared : State := { s with host := { s.host with condition := none } }
    (s.station = .detached → exec .resume s = .next (State.answered { cleared with
      ctrl := { s.ctrl with
        state := .active, cause := some .host
        leaseTimer := if s.ctrl.config.lease = 0 then none else some 0 }
      tx := { s.tx with
        publish := s.tx.publish ++
          (List.finRange 256).filter fun p => (s.pt p).state = .held ∧ p ∉ s.tx.publish }
      events := s.events.offer (.stationState .active (some .host)) } q rest .ok [])) ∧
    (s.station ≠ .detached → exec .resume s = .next (cleared.answered q rest .badState []))

/-! ### Point commands and READ EVENT -/

/-- WRITE POINT on a HELD point with as many octets as its length replaces the value, advances the generation by 1 with
wrap, appends the id to the publish list if absent, and returns the new generation (R56). On a point that is not HELD it
answers NOT_HOLDER, and with another number of octets BAD_LENGTH, changing no record and no list (R55). -/
def Obligations.WritePointPublishesAValue : Prop :=
  ∀ (s : State) (q : QueuedCommand) (rest : List QueuedCommand) (p : PointId) (octets : List Octet),
    s.reaches .writePoint q rest → q.params = pointOctet p :: octets →
    ((s.pt p).state ≠ .held → exec .writePoint s = .next (s.excepted q rest .notHolder)) ∧
    ((s.pt p).state = .held → (s.pt p).length ≠ some octets.length →
      exec .writePoint s = .next (s.excepted q rest .badLength)) ∧
    ((s.pt p).state = .held → (s.pt p).length = some octets.length → ∀ old, (s.pt p).value = some old →
      exec .writePoint s = .next (State.answered { s.setPt p { s.pt p with
          value := some { octets := octets, generation := old.generation + 1 } } with
        tx := { s.tx with
          publish := if p ∈ s.tx.publish then s.tx.publish else s.tx.publish ++ [p] } } q rest .ok
        [(old.generation + 1).extractLsb' 8 8, (old.generation + 1).extractLsb' 0 8]))

/-- CLAIM POINT: the checks of R30 in their order, and on success the record becomes CLAIMING in phase REQUESTED with the
own address as claimant, the length and value given and generation 0, the claiming count rises by 1, a waiting RELEASE
request for the point is removed and a CLAIM request is appended (R31). -/
def Obligations.ClaimPointOpensAClaim : Prop :=
  ∀ (s : State) (q : QueuedCommand) (rest : List QueuedCommand) (p : PointId) (length : Octet) (octets : List Octet),
    s.reaches .claimPoint q rest → q.params = pointOctet p :: length :: octets →
    let free := (s.pt p).state = .vacant ∨ (s.pt p).state = .stale
    let fits := 1 ≤ length.toNat ∧ length.toNat ≤ 8 ∧ octets.length = length.toNat
    let below := s.claimingCount < 4 ∧ s.heldCount + s.claimingCount < 64
    let room := s.tx.control.length < 16 ∨ Request.release p ∈ s.tx.control
    (¬ free → exec .claimPoint s = .next (s.excepted q rest .badPoint)) ∧
    (free → ¬ fits → exec .claimPoint s = .next (s.excepted q rest .badLength)) ∧
    (free → fits → ¬ below → exec .claimPoint s = .next (s.excepted q rest .limit)) ∧
    (free → fits → below → ¬ room → exec .claimPoint s = .next (s.excepted q rest .listFull)) ∧
    (free → fits → below → room → Request.claim p ∉ s.tx.control →
      exec .claimPoint s = .next (State.answered { s.setPt p
          { state := .claiming, owner := none, claimant := some s.own, contender := none
            length := some octets.length, value := some { octets := octets, generation := 0 }, age := none
            phase := some .requested, subscribed := (s.pt p).subscribed, claimWindow := none, refreshTimer := none
            staleTimer := none, contenderTimer := none } with
        claimingCount := s.claimingCount + 1
        tx := { s.tx with control := s.tx.control.filter (· ≠ .release p) ++ [.claim p] } } q rest .ok []))

/-- RELEASE POINT: a HELD point leaves HELD and becomes VACANT with no claimant, and a RELEASE request is appended (R46);
a CLAIMING point's claim is withdrawn and the point becomes VACANT, with a RELEASE request unless the claim was still
REQUESTED (R47); with a full list the request is not queued and the answer carries release not announced (R48); on any
other point the answer is NOT_HOLDER and nothing changes (R46). -/
def Obligations.ReleasePointGivesUpAPoint : Prop :=
  ∀ (s : State) (q : QueuedCommand) (rest : List QueuedCommand) (p : PointId) (more : List Octet),
    s.reaches .releasePoint q rest → q.params = pointOctet p :: more →
    let vacant := (s.pt p).vacated none
    ((s.pt p).state ≠ .held → (s.pt p).state ≠ .claiming →
      exec .releasePoint s = .next (s.excepted q rest .notHolder)) ∧
    ((s.pt p).state = .claiming → (s.pt p).phase = some .requested →
      exec .releasePoint s = .next (((s.withdrawClaim p).setPt p vacant).answered q rest .ok [0x00])) ∧
    ∀ t : State,
      ((s.pt p).state = .held ∧ t = (s.leaveHeld p).setPt p vacant) ∨
        ((s.pt p).state = .claiming ∧ (s.pt p).phase ≠ some .requested ∧
          t = (s.withdrawClaim p).setPt p vacant) →
      (Request.release p ∉ t.tx.control → t.tx.control.length < 16 →
        exec .releasePoint s = .next (State.answered { t with
          tx := { t.tx with control := t.tx.control ++ [.release p] } } q rest .ok [0x00])) ∧
      (Request.release p ∉ t.tx.control → 16 ≤ t.tx.control.length →
        exec .releasePoint s = .next (t.answered q rest .ok [0x01])) ∧
      (Request.release p ∈ t.tx.control → exec .releasePoint s = .next (t.answered q rest .ok [0x00]))

/-- RECALL POINT: on a VACANT, CLAIMING or HELD point BAD_POINT (R73); otherwise, by R74, nothing is added when a waiting
RECALL to the owner names the point, the id is added to the oldest RECALL to the owner with fewer than 8 ids, a new
RECALL is appended when there is none, or, with 16 requests waiting, the answer is LIST_FULL. No record changes. -/
def Obligations.RecallPointMergesRequests : Prop :=
  ∀ (s : State) (q : QueuedCommand) (rest : List QueuedCommand) (p : PointId) (more : List Octet),
    s.reaches .recallPoint q rest → q.params = pointOctet p :: more →
    ((s.pt p).state = .vacant ∨ (s.pt p).state = .claiming ∨ (s.pt p).state = .held →
      exec .recallPoint s = .next (s.excepted q rest .badPoint)) ∧
    ∀ x, (s.pt p).state = .mirror ∨ (s.pt p).state = .stale ∨ (s.pt p).state = .disputed →
      (s.pt p).owner = some x →
      let named := ∃ ids, Request.recall x ids ∈ s.tx.control ∧ p ∈ ids
      let roomy (r : Request) := ∃ ids, r = .recall x ids ∧ ids.length < 8
      (named → exec .recallPoint s = .next (s.answered q rest .ok [])) ∧
      (¬ named → ∀ front ids back, s.tx.control = front ++ Request.recall x ids :: back → (∀ r ∈ front, ¬ roomy r) →
        ids.length < 8 →
        exec .recallPoint s = .next (State.answered { s with
          tx := { s.tx with control := front ++ .recall x (ids ++ [p]) :: back } } q rest .ok [])) ∧
      (¬ named → (∀ r ∈ s.tx.control, ¬ roomy r) → s.tx.control.length < 16 →
        exec .recallPoint s = .next (State.answered { s with
          tx := { s.tx with control := s.tx.control ++ [.recall x [p]] } } q rest .ok [])) ∧
      (¬ named → (∀ r ∈ s.tx.control, ¬ roomy r) → 16 ≤ s.tx.control.length →
        exec .recallPoint s = .next (s.excepted q rest .listFull))

/-- SUBSCRIBE sets and UNSUBSCRIBE clears the subscribed flag of the points first to first + count - 1 and changes
nothing else; a count of 0 changes no flag; a range that passes point 255 answers BAD_POINT and changes no flag (R26,
R186). -/
def Obligations.SubscriptionSetsARange : Prop :=
  ∀ (s : State) (q : QueuedCommand) (rest : List QueuedCommand) (first hi lo : Octet) (on : Bool),
    let c : HostCommand := if on then .subscribe else .unsubscribe
    let count := 256 * hi.toNat + lo.toNat
    s.reaches c q rest → q.params = [first, hi, lo] →
    (first.toNat + count ≤ 256 → ∃ t : State, exec (HostCommand.rowOf (some c)) s = .next (t.answered q rest .ok []) ∧
      t = { s with points := t.points } ∧
      ∀ p : PointId, t.pt p =
        if first.toNat ≤ p.val ∧ p.val < first.toNat + count then { s.pt p with subscribed := on } else s.pt p) ∧
    (256 < first.toNat + count → exec (HostCommand.rowOf (some c)) s = .next (s.excepted q rest .badPoint))

/-- READ EVENT removes the oldest record and returns it; when the lost-event count is not 0 an EVENTS_LOST record with
that count is appended within the same item and the count becomes 0; an empty queue answers EMPTY and nothing changes
(R210, R211). -/
def Obligations.ReadEventTakesTheOldest : Prop :=
  ∀ (s : State) (q : QueuedCommand) (rest : List QueuedCommand), s.reaches .readEvent q rest →
    (s.events.records = [] → exec .readEvent s = .next (s.answered q rest .empty [])) ∧
    (∀ e others, s.events.records = e :: others → s.events.lost = 0 →
      exec .readEvent s = .next (State.answered { s with
        events := { records := others, lost := 0 } } q rest .ok e.data)) ∧
    (∀ e others, s.events.records = e :: others → s.events.lost ≠ 0 →
      exec .readEvent s = .next (State.answered { s with
        events := { records := others ++ [.eventsLost s.events.lost], lost := 0 } } q rest .ok e.data))

/-! ### The line -/

/-- Characters form a frame: on an idle line a start bit stops the ladder and begins a frame, each character received
with its stop bit high joins the octets, up to 55, and a character with its stop bit low, or a 56th, makes the frame
DISCARDING (R129, R131, R147). In SEEKING, DISCARDING, IN FRAME and SENDING a start bit stops the gap timer, and in
SEEKING and DISCARDING a character restarts it, whatever its stop bit; 2 ct of idle line after JOIN make a SEEKING
interface IDLE with a ladder before slot 0 of its first round; in OFF nothing on the line has an effect (R130, R131,
R147). While the gap timer is stopped, a character being under way, the line does not come to have been idle for 2 ct:
no frame ends and SEEKING is not left (R130; a command that does not occur changes nothing, log entry 1). -/
def Obligations.CharactersFormAFrame : Prop :=
  ∀ (s : State) (octets : List Octet) (o : Octet) (high : Bool),
    let heard := octets.flatMap fun x => [Instr.startBit, .characterReceived x true]
    (s.line.state = .idle → octets ≠ [] → octets.length ≤ 55 →
      execAll heard s = .next { s with
        line := { s.line with state := .inFrame, octets := octets, gap := some 0, ladder := none } }) ∧
    (s.line.state = .idle → octets.length ≤ 55 → high = false ∨ octets.length = 55 →
      execAll (heard ++ [.startBit, .characterReceived o high]) s = .next { s with
        line := { s.line with state := .discarding false, octets := [], gap := some 0, ladder := none } }) ∧
    (s.line.state = .seeking ∨ s.line.state = .discarding false ∨ s.line.state = .discarding true →
      exec (.characterReceived o high) s = .next { s with line := { s.line with gap := some 0 } }) ∧
    (s.line.state ≠ .off → s.line.state ≠ .idle →
      exec .startBit s = .next { s with line := { s.line with gap := none } }) ∧
    (s.line.gap = none → ∀ c ∈ [Instr.lineIdleAfterSeeking, .frameEnd, .frameEndedWithoutCollision],
      exec c s = .next s) ∧
    (s.line.state = .seeking → s.line.gap.isSome = true →
      exec .lineIdleAfterSeeking s = .next { s with
        line := { s.line with
          state := .idle, gap := none, ladder := some { round := 0, next := 0, offeredFrom := 0 } } }) ∧
    (s.line.state = .off →
      ∀ c ∈ [Instr.startBit, .characterReceived o high, .lineIdleAfterSeeking, .frameEnd], exec c s = .next s)

/-- A frame end is judged by the checks of R134 in their order. A garbled end (framing, CRC or content) counts its error
and sets the last source to N - 1; an end after an abort counts nothing; a valid end sets the last source to the frame's
source; each makes the Line Interface IDLE and begins a ladder (R131, R138, R139, R146, R147). A valid frame of
the own address enters CLASHED from LISTENING, ACTIVE and DETACHED, flushing reception, and is otherwise discarded (R119,
R120, R136). Where slot 0 of the new ladder is taken before the clash, the entry is made from the state that URGENT_SLOT
leaves: a frame begun there is cut off, the Line Interface is DISCARDING, and the sequence number is used (R120, R131,
R155). That it can be slot 0 alone, and that the sender says which is first in a field of the model, is log entry 17. A
frame of another station is counted as a duplicate when its sequence is the reference (R137), discarded in a
station state that takes no frames, taken at the tail of the FIFO, or, with 4 frames waiting, lost, counted and posted as
RX_OVERRUN (R140). -/
def Obligations.FrameEndIsJudged : Prop :=
  ∀ s : State, s.line.gap.isSome = true →
    let octets := s.line.octets
    let listens := s.station = .listening ∨ s.station = .active ∨ s.station = .detached
    let up (c : Counter) : Counter := if c = 0xFFFF then c else c + 1
    let ended (source : Addr) : State := { s with
      line := { state := .idle, octets := [], gap := none, lastSource := source
                ladder := some { round := 0, next := 0, offeredFrom := 0 } } }
    let garbled := ended (Fin.ofNat 32 (s.n.toNat - 1))
    let clashed (u : State) : State := { u with
      ctrl := { s.ctrl with
        state := .clashed, cause := some .clash, listenTimer := none, presenceTimer := none, leaseTimer := none
        freshStart := false }
      events := s.events.offer (.stationState .clashed (some .clash))
      rx := { fifo := [], applying := none } }
    (s.line.state = .discarding true → exec .frameEnd s = .next garbled) ∧
    (s.line.state = .discarding false ∨
      (s.line.state = .inFrame ∧ (octets.length < 6 ∨ 55 < octets.length)) →
      exec .frameEnd s = .next { garbled with
        counters := { s.counters with framingErrors := up s.counters.framingErrors } }) ∧
    (s.line.state = .inFrame → 6 ≤ octets.length → octets.length ≤ 55 →
      (crcMatches octets = false →
        exec .frameEnd s = .next { garbled with
          counters := { s.counters with crcErrors := up s.counters.crcErrors } }) ∧
      (crcMatches octets = true → readFrame s.n octets = none →
        exec .frameEnd s = .next { garbled with
          counters := { s.counters with invalidFrames := up s.counters.invalidFrames } }) ∧
      ∀ f, crcMatches octets = true → readFrame s.n octets = some f →
        (f.source = s.own → ¬ listens → exec .frameEnd s = .next (ended s.own)) ∧
        (f.source = s.own → listens → s.tx.flying = false →
          let left : State := { ended s.own with slotFirst := s.slotFirst.tail }
          (s.slotFirst.head? ≠ some true → exec .frameEnd s = .next (clashed left)) ∧
          (s.slotFirst.head? = some true → ∃ u, exec .urgentSlot left = .next u ∧
            (u.line.state ≠ .sending → exec .frameEnd s = .next (clashed u)) ∧
            ∀ b, u.line.state = .sending → u.tx.frame = some b →
              exec .frameEnd s = .next { clashed u with
                tx := { u.tx with frame := some { b with place := .cutOff } }
                line := { u.line with state := .discarding true, octets := [], gap := some 0, ladder := none } })) ∧
        (f.source ≠ s.own → s.referenceSequence f.source = some f.sequence →
          exec .frameEnd s = .next { ended f.source with
            counters := { s.counters with duplicates := up s.counters.duplicates } }) ∧
        (f.source ≠ s.own → s.referenceSequence f.source ≠ some f.sequence →
          (¬ listens → exec .frameEnd s = .next (ended f.source)) ∧
          (listens → s.rx.fifo.length < 4 →
            exec .frameEnd s = .next { ended f.source with rx := { s.rx with fifo := s.rx.fifo ++ [f] } }) ∧
          (listens → 4 ≤ s.rx.fifo.length →
            exec .frameEnd s = .next { ended f.source with
              counters := { s.counters with overruns := up s.counters.overruns }
              events := s.events.offer (.rxOverrun 1) })))

/-- The reference sequence of a source is that of its newest frame in the FIFO, failing that of its frame being applied,
failing that the roster's last sequence of a PRESENT or SILENT peer; otherwise there is none (R137). That an entry which
has gone GONE in LEAVING or CLASHED gives no reference there either is the model's reading of R137 (log entry 26). -/
def Obligations.DuplicateReferenceIsTheNewestFrame : Prop :=
  ∀ (s : State) (x : Addr),
    (∀ before f after, s.rx.fifo = before ++ f :: after → f.source = x → (∀ g ∈ after, g.source ≠ x) →
      s.referenceSequence x = some f.sequence) ∧
    ((∀ g ∈ s.rx.fifo, g.source ≠ x) →
      (∀ a, s.rx.applying = some a → a.frame.source = x → s.referenceSequence x = some a.frame.sequence) ∧
      ((∀ a, s.rx.applying = some a → a.frame.source ≠ x) →
        ((s.peer x).state = .present ∨ (s.peer x).state = .silent → s.referenceSequence x = (s.peer x).lastSeq) ∧
        ((s.peer x).state = .absent ∨ (s.peer x).state = .gone → s.referenceSequence x = none)))

/-- The station's own frame, every character of which has been read back as it was sent, ends when the line has then been
idle for 2 ct, which it can be while the gap timer runs (R130, R150): the built frame is discarded, the last source is the own address, and a ladder begins (R131, R136, R146). The report then clears the
fresh-start marker for a PRESENCE that carried it, restarts the refresh timers of the points of a PUBLISH still HELD,
starts the claim window of the point of a CLAIM still CLAIMING in SENDING, and ends the session for a FAREWELL; outside
LISTENING, ACTIVE and DETACHED no record changes (R24, R117, R164). A frame not yet read back whole has no such end, nor
has one while a character is under way: nothing changes (log entry 1). -/
def Obligations.OwnFrameEnds : Prop :=
  ∀ (s : State) (b : BuiltFrame) (slot : Nat), s.line.state = .sending → s.tx.frame = some b →
    b.place = .inFlight slot →
    let listens := s.station = .listening ∨ s.station = .active ∨ s.station = .detached
    let t : State := { s with
      tx := { s.tx with frame := none }
      line := { state := .idle, octets := [], gap := none, lastSource := s.own
                ladder := some { round := 0, next := 0, offeredFrom := 0 } } }
    (b.readBack < b.frame.encode.length ∨ s.line.gap = none → exec .frameEndedWithoutCollision s = .next s) ∧
    (b.frame.encode.length ≤ b.readBack → s.line.gap.isSome = true →
      (∀ st held n u, b.frame.body = .presence st true held n u →
        exec .frameEndedWithoutCollision s = .next { t with ctrl := { s.ctrl with freshStart := false } }) ∧
      (∀ st held n u, b.frame.body = .presence st false held n u →
        exec .frameEndedWithoutCollision s = .next t) ∧
      (∀ records, b.frame.body = .publish records →
        (listens → ∃ u : State, exec .frameEndedWithoutCollision s = .next u ∧ u = { t with points := u.points } ∧
          ∀ p, u.pt p =
            if (∃ r ∈ records, r.point = p) ∧ (s.pt p).state = .held then { s.pt p with refreshTimer := some 0 }
            else s.pt p) ∧
        (¬ listens → exec .frameEndedWithoutCollision s = .next t)) ∧
      (∀ p, b.frame.body = .claim p →
        let waits := listens ∧ (s.pt p).state = .claiming ∧ (s.pt p).phase = some .sending
        (waits → exec .frameEndedWithoutCollision s = .next
          (t.setPt p { s.pt p with phase := some .window, claimWindow := some 0 })) ∧
        (¬ waits → exec .frameEndedWithoutCollision s = .next t)) ∧
      ((∃ p k, b.frame.body = .assert p k) ∨ (∃ p, b.frame.body = .release p) ∨
        (∃ x ids, b.frame.body = .recall x ids) → exec .frameEndedWithoutCollision s = .next t) ∧
      (b.frame.body = .farewell → exec .frameEndedWithoutCollision s = .next (t.offlineAfter .leaveDone)))

/-- While the own frame is on the line each character read back as it was sent counts, and one that differs, or whose
stop bit is low, is the collision that COLLISION stands for (R129, R150, R151). After the last own character there is
nothing to compare with (log entry 14), and no collision occurs (log entry 1). -/
def Obligations.OwnCharactersAreComparedWithTheFrame : Prop :=
  ∀ (s : State) (b : BuiltFrame) (slot : Nat) (o : Octet) (high : Bool), s.line.state = .sending →
    s.tx.frame = some b → b.place = .inFlight slot →
    (∀ sent, b.frame.encode[b.readBack]? = some sent →
      (o = sent → exec (.characterReceived o true) s = .next { s with
        tx := { s.tx with frame := some { b with readBack := b.readBack + 1 } }
        line := { s.line with gap := some 0 } }) ∧
      (o ≠ sent ∨ high = false → exec (.characterReceived o high) s = exec .collision s)) ∧
    (b.frame.encode.length ≤ b.readBack →
      exec (.characterReceived o high) s = .next { s with line := { s.line with gap := some 0 } } ∧
      exec .collision s = .next s)

/-- A collision releases the line, which is DISCARDING until 2 ct of idle, and counts in collisions (R151). A frame
whose work was withdrawn is discarded. Otherwise the attempt counts: before the eighth the frame becomes the retry
frame, with the urgent mark when its attempt was in slot 0; the eighth drops it, with tx_dropped and TX_DROPPED, and by
kind: a CLAIM whose point is CLAIMING in SENDING loses its claim with cause TX_FAILED, the HELD points of a PUBLISH
return to the tail of the publish list in ACTIVE, and a FAREWELL ends the session (R38, R153, R154, R168). It comes
while a character has still to be read back (R150). -/
def Obligations.CollisionAbortsTheFrame : Prop :=
  ∀ (s : State) (b : BuiltFrame) (slot : Nat), s.line.state = .sending → s.tx.frame = some b →
    b.place = .inFlight slot →
    let listens := s.station = .listening ∨ s.station = .active ∨ s.station = .detached
    let up (c : Counter) : Counter := if c = 0xFFFF then c else c + 1
    let t : State := { s with
      line := { s.line with state := .discarding true, octets := [], gap := some 0, ladder := none }
      counters := { s.counters with collisions := up s.counters.collisions } }
    let dropped (kind : FrameKind) (point : Option PointId) : State := { t with
      tx := { s.tx with frame := none }
      counters := { t.counters with txDropped := up s.counters.txDropped }
      events := s.events.offer (.txDropped kind point) }
    (b.readBack < b.frame.encode.length →
      (b.withdrawn = true → exec .collision s = .next { t with tx := { s.tx with frame := none } }) ∧
      (b.withdrawn = false → b.attempts < 7 → exec .collision s = .next { t with
        tx := { s.tx with
          frame := some { b with attempts := b.attempts + 1, place := .retry (decide (slot = 0)), readBack := 0 } } }) ∧
      (b.withdrawn = false → 7 ≤ b.attempts →
        (∀ p, b.frame.body = .claim p →
          let u := dropped .claim (some p)
          let lost := listens ∧ (s.pt p).state = .claiming ∧ (s.pt p).phase = some .sending
          (lost → exec .collision s = .next { u.setPt p ((s.pt p).vacated none) with
            claimingCount := s.claimingCount - 1
            events := u.events.offer (.claimLost p .txFailed none) }) ∧
          (¬ lost → exec .collision s = .next u)) ∧
        (∀ records, b.frame.body = .publish records →
          let u := dropped .publish none
          (s.station = .active → exec .collision s = .next { u with
            tx := { u.tx with publish := records.foldl (fun ids r =>
              if (s.pt r.point).state = .held ∧ r.point ∉ ids then ids ++ [r.point] else ids) s.tx.publish } }) ∧
          (s.station ≠ .active → exec .collision s = .next u)) ∧
        (b.frame.body = .farewell → exec .collision s = .next ((dropped .farewell none).offlineAfter .leaveDone)) ∧
        (∀ p k, b.frame.body = .assert p k → exec .collision s = .next (dropped .assert (some p))) ∧
        (∀ p, b.frame.body = .release p → exec .collision s = .next (dropped .release (some p))) ∧
        (∀ x ids, b.frame.body = .recall x ids → exec .collision s = .next (dropped .recall none)) ∧
        (∀ st fresh held n u, b.frame.body = .presence st fresh held n u →
          exec .collision s = .next (dropped .presence none))))

/-! ### The slots -/

/-- After a frame from `last`, the rank of `own` on a segment of N stations is the number of addresses passed over in
going up from `last + 1` to `own`, modulo N; the N stations have the N different ranks 0 to N - 1 (R148). -/
def Obligations.RanksAreDistinct : Prop :=
  ∀ (n : SegmentSize) (last : Addr), last.val < n.toNat →
    (∀ own : Addr, own.val < n.toNat →
      rankOf n own last < n.toNat ∧ (last.val + 1 + rankOf n own last) % n.toNat = own.val) ∧
    ∀ a b : Addr, a.val < n.toNat → b.val < n.toNat → rankOf n a last = rankOf n b last → a = b

/-- The urgent slot, slot 0 of a round (R147, R148). Which round an URGENT_SLOT command belongs to is the model's choice: the
one that runs while its slot 0 is ahead, else the next one (log entry 19, DESIGN CHOICE).
In a round whose slots are not offered, and in station states other than ACTIVE and DETACHED, the ladder is followed and
nothing starts (R109, R148, R165); nothing starts while the fresh-start marker is set (R159). With a retry frame
waiting, it goes out if it is an ASSERT or a CLAIM without the urgent mark, and otherwise nothing does; with none, the
oldest ASSERT request, failing that the oldest CLAIM request, is built and sent (R161). Building a CLAIM makes a record
CLAIMING in REQUESTED one in SENDING (R24, R32). -/
def Obligations.UrgentSlotChoice : Prop :=
  ∀ (s : State) (l : Ladder), s.line.state = .idle → s.line.ladder = some l →
    let round := if l.next = 0 then l.round else l.round + 1
    let quiet : State := { s with
      line := { s.line with ladder := some { round := round, next := 1, offeredFrom := l.offeredFrom } } }
    let without (r : Request) : List Request := s.tx.control.filter (· ≠ r)
    let claimBuilt (p : PointId) : State :=
      if (s.pt p).state = .claiming ∧ (s.pt p).phase = some .requested then
        s.setPt p { s.pt p with phase := some .sending }
      else s
    (round < l.offeredFrom ∨ s.station = .offline ∨ s.station = .listening ∨ s.station = .leaving ∨
      s.station = .clashed → exec .urgentSlot s = .next quiet) ∧
    (l.offeredFrom ≤ round → s.station = .active ∨ s.station = .detached →
      (s.ctrl.freshStart = true → exec .urgentSlot s = .next quiet) ∧
      (s.ctrl.freshStart = false →
        (∀ b urgent, s.tx.frame = some b → b.place = .retry urgent →
          let goes := urgent = false ∧ ((∃ p k, b.frame.body = .assert p k) ∨ ∃ p, b.frame.body = .claim p)
          (goes → exec .urgentSlot s = .next (s.sendingIn 0 b)) ∧ (¬ goes → exec .urgentSlot s = .next quiet)) ∧
        (s.tx.frame = none →
          (∀ front p back, s.tx.control = front ++ .assert p :: back → (∀ r ∈ front, ∀ q, r ≠ .assert q) →
            ∀ k, (s.pt p).length = some k →
              exec .urgentSlot s = .next (State.sendingNewIn { s with
                tx := { s.tx with control := without (.assert p) } } 0 (.assert p (BitVec.ofNat 8 k)))) ∧
          (∀ front p back, s.tx.control = front ++ .claim p :: back → (∀ r ∈ front, ∀ q, r ≠ .claim q) →
            (∀ r ∈ s.tx.control, ∀ q, r ≠ .assert q) →
              exec .urgentSlot s = .next (State.sendingNewIn { claimBuilt p with
                tx := { s.tx with control := without (.claim p) } } 0 (.claim p))) ∧
          ((∀ r ∈ s.tx.control, ∀ q, r ≠ .assert q ∧ r ≠ .claim q) → exec .urgentSlot s = .next quiet))))

/-- The ranked slot in ACTIVE and DETACHED. The retry frame goes before all else (R153). With none, the order is the
oldest ASSERT, CLAIM, RELEASE, RECALL and PRESENCE request, and then a PUBLISH of the first 4 ids of the publish list
with the values they have now (R59, R160, R162); with nothing to send the ladder goes on. While the fresh-start marker
is set only a PRESENCE goes out, a waiting PRESENCE request with it (R111, R112, R159). The slot's number is 1 + the
rank (R148). Which round a RANKED_SLOT command belongs to is the model's choice: the one that runs while the slot is
ahead there, else the next one (log entry 19, DESIGN CHOICE); in a round whose slots are not offered, the one in which
the station became ACTIVE, it passes (R109, R147). -/
def Obligations.RankedSlotChoice : Prop :=
  ∀ (s : State) (l : Ladder), s.line.state = .idle → s.line.ladder = some l →
    s.station = .active ∨ s.station = .detached →
    let slot := 1 + rankOf s.n s.own s.line.lastSource
    let round := if l.next ≤ slot then l.round else l.round + 1
    let quiet : State := { s with
      line := { s.line with ladder := some { round := round, next := slot + 1, offeredFrom := l.offeredFrom } } }
    let order : Request → Nat := fun r => match r with
      | .assert _ => 0
      | .claim _ => 1
      | .release _ => 2
      | .recall _ _ => 3
      | .presence => 4
      | .farewell => 5
    let presence : Body := .presence (if s.station = .detached then .detached else .active) s.ctrl.freshStart
      s.heldCount s.n s.ctrl.config.pUnits
    let body : Request → Body := fun r => match r with
      | .assert p => .assert p (BitVec.ofNat 8 ((s.pt p).length.getD 0))
      | .claim p => .claim p
      | .release p => .release p
      | .recall x ids => .recall x ids
      | .presence => presence
      | .farewell => .farewell
    let reported : Request → State := fun r => match r with
      | .claim p =>
          if (s.pt p).state = .claiming ∧ (s.pt p).phase = some .requested then
            s.setPt p { s.pt p with phase := some .sending }
          else s
      | .assert _ | .release _ | .recall _ _ | .presence | .farewell => s
    let without (r : Request) : List Request := s.tx.control.filter (· ≠ r)
    (round < l.offeredFrom → exec .rankedSlot s = .next quiet) ∧
    (l.offeredFrom ≤ round →
      (∀ b urgent, s.tx.frame = some b → b.place = .retry urgent →
        (s.ctrl.freshStart = false → exec .rankedSlot s = .next (s.sendingIn slot b)) ∧
        (s.ctrl.freshStart = true →
          let fresh := ∃ st held n u, b.frame.body = .presence st true held n u
          (fresh → exec .rankedSlot s = .next (s.sendingIn slot b)) ∧ (¬ fresh → exec .rankedSlot s = .next quiet))) ∧
      (s.tx.frame = none →
        (s.ctrl.freshStart = true → exec .rankedSlot s = .next (State.sendingNewIn { s with
          tx := { s.tx with control := without .presence } } slot presence)) ∧
        (s.ctrl.freshStart = false →
          (∀ front r back, s.tx.control = front ++ r :: back → r ≠ .farewell → (∀ w ∈ front, order r < order w) →
            (∀ w ∈ back, order r ≤ order w) →
            exec .rankedSlot s = .next (State.sendingNewIn { reported r with
              tx := { s.tx with control := without r } } slot (body r))) ∧
          ((∀ r ∈ s.tx.control, r = .farewell) →
            (s.tx.publish = [] → exec .rankedSlot s = .next quiet) ∧
            (s.tx.publish ≠ [] → (∀ p ∈ s.tx.publish, (s.pt p).value.isSome = true) →
              ∃ records, exec .rankedSlot s = .next (State.sendingNewIn { s with
                  tx := { s.tx with publish := s.tx.publish.drop 4 } } slot (.publish records)) ∧
                records.map PublishRecord.point = s.tx.publish.take 4 ∧
                ∀ r ∈ records, (s.pt r.point).value = some { octets := r.octets, generation := r.generation })))))

/-- In LEAVING the ranked slot offers the FAREWELL alone, waiting as a request or as the retry frame, and passes with
neither or in a round whose slots are not offered (R109, R166); in OFFLINE, LISTENING and CLASHED it passes, and the
ladder goes on being followed (R148, R165). Which round the command belongs to is the model's choice (log entry 19, DESIGN
CHOICE). While no ladder runs no slot begins (R147); that the two commands then change nothing is log entry 1 (DESIGN
CHOICE). -/
def Obligations.LeavingSlotSendsTheFarewell : Prop :=
  ∀ s : State,
    let slot := 1 + rankOf s.n s.own s.line.lastSource
    (∀ l : Ladder, s.line.state = .idle → s.line.ladder = some l →
      let round := if l.next ≤ slot then l.round else l.round + 1
      let quiet : State := { s with
        line := { s.line with ladder := some { round := round, next := slot + 1, offeredFrom := l.offeredFrom } } }
      (s.station = .leaving → l.offeredFrom ≤ round →
        (∀ b urgent, s.tx.frame = some b → b.place = .retry urgent →
          exec .rankedSlot s = .next (s.sendingIn slot b)) ∧
        (s.tx.frame = none → Request.farewell ∈ s.tx.control →
          exec .rankedSlot s = .next (State.sendingNewIn { s with
            tx := { s.tx with control := s.tx.control.filter (· ≠ .farewell) } } slot .farewell)) ∧
        (s.tx.frame = none → Request.farewell ∉ s.tx.control → exec .rankedSlot s = .next quiet)) ∧
      (round < l.offeredFrom ∨ s.station = .offline ∨ s.station = .listening ∨ s.station = .clashed →
        exec .rankedSlot s = .next quiet)) ∧
    (s.line.state ≠ .idle ∨ s.line.ladder = none → exec .rankedSlot s = .next s ∧ exec .urgentSlot s = .next s)

/-! ### Received frames -/

/-- The idle Frame Processor takes the frame at the head of the FIFO and hands over its items in order: the roster item,
then each record of a PUBLISH in its order, or the table item of a CLAIM, ASSERT, RELEASE, or of a RECALL addressed to
this station; while a frame is being applied, or none waits, it takes none (R142). -/
def Obligations.FrameItemsInOrder : Prop :=
  ∀ (s : State) (f : Frame) (fifo : List Frame),
    (s.rx.applying = none → s.rx.fifo = f :: fifo →
      exec .frameProcessorTakesFrame s = .next { s with rx :=
        { fifo := fifo
          applying := some
            { frame := f
              items := match f.body with
                | .presence _ _ _ _ _ => [.roster]
                | .publish records => .roster :: records.map .record
                | .claim p => [.roster, .claim p]
                | .assert p k => [.roster, .assert p k]
                | .release p => [.roster, .release p]
                | .recall x ids => if x = s.own then [.roster, .recall ids] else [.roster]
                | .farewell => [.roster] } } }) ∧
    (s.rx.applying ≠ none ∨ s.rx.fifo = [] → exec .frameProcessorTakesFrame s = .next s)

/-- Roster notifications at the table, each one sweep over all points that changes records and events alone, the events
posted in ascending order of point id, to subscribed points only. SILENT or DETACHED of `x`: a MIRROR or DISPUTED point
of owner `x` becomes STALE, and a DISPUTED point loses the contender `x` (R92, R93). GONE: a MIRROR or STALE point of
`x` becomes VACANT, the contender of a DISPUTED point of `x` is promoted with value absent, and `x` is dropped as
contender and claimant (R94). Fresh start: every point of owner `x` becomes VACANT with its claimant kept, and `x` is
dropped as contender (R95). -/
def Obligations.NotificationsSweepTheTable : Prop :=
  ∀ (s : State) (x : Addr),
    let toStale (r : PointRecord) : PointRecord :=
      { r with state := .stale, contender := none, staleTimer := none, contenderTimer := none }
    let toMirror (r : PointRecord) : PointRecord := { r with state := .mirror, contender := none, contenderTimer := none }
    let others (a : Option Addr) : Option Addr := if a = some x then none else a
    let swept (t : State) (change : PointRecord → PointRecord) (news : PointId → List Event) : Prop :=
      t = { s with points := t.points, events := t.events } ∧ (∀ p, t.pt p = change (s.pt p)) ∧
      t.events = ((List.finRange 256).filter fun p => (s.pt p).subscribed).foldl
        (fun q p => (news p).foldl EventQueue.offer q) s.events
    swept (State.sweep (State.markDown x) s)
      (fun r =>
        if (r.state = .mirror ∨ r.state = .disputed) ∧ r.owner = some x then toStale r
        else if r.state = .disputed ∧ r.contender = some x then toMirror r
        else r)
      (fun p =>
        if ((s.pt p).state = .mirror ∨ (s.pt p).state = .disputed) ∧ (s.pt p).owner = some x then [.pointStale p x]
        else []) ∧
    swept (State.sweep (State.forget x) s)
      (fun r =>
        if (r.state = .mirror ∨ r.state = .stale) ∧ r.owner = some x then r.vacated (others r.claimant)
        else if r.state = .disputed ∧ r.owner = some x ∧ r.contender.isSome = true then
          r.mirrored (r.contender.getD x) none none
        else if r.state = .disputed ∧ r.owner ≠ some x ∧ r.contender = some x then toMirror r
        else if r.state = .vacant ∨ r.state = .stale then { r with claimant := others r.claimant }
        else r)
      (fun p =>
        if ((s.pt p).state = .mirror ∨ (s.pt p).state = .stale) ∧ (s.pt p).owner = some x then
          [.ownerChanged p (some x) none]
        else if (s.pt p).state = .disputed ∧ (s.pt p).owner = some x ∧ (s.pt p).contender.isSome = true then
          [.ownerChanged p (some x) (s.pt p).contender]
        else []) ∧
    swept (State.sweep (State.restarted x) s)
      (fun r =>
        if (r.state = .mirror ∨ r.state = .stale ∨ r.state = .disputed) ∧ r.owner = some x then r.vacated r.claimant
        else if r.state = .disputed ∧ r.contender = some x then toMirror r
        else r)
      (fun p =>
        if ((s.pt p).state = .mirror ∨ (s.pt p).state = .stale ∨ (s.pt p).state = .disputed) ∧
            (s.pt p).owner = some x then [.ownerChanged p (some x) none]
        else [])

/-- The roster item of a frame. Every valid frame of a peer makes its entry PRESENT with the frame's sequence, silence 0
and the missed count raised by the sequence gap, up to 255, with PEER_JOINED or PEER_RETURNED (R122, R123). A PRESENCE
is then taken in four steps, fresh start, detached flag, announced fields, mismatch flag (R124); a FAREWELL makes the
peer GONE with cause FAREWELL (R126). -/
def Obligations.RosterItemKeepsTheRoster : Prop :=
  ∀ (s : State) (f : Frame) (rest : List FrameItem), s.taking f .roster rest →
    f.source.val < s.n.toNat → f.source ≠ s.own →
    let x := f.source
    let e := s.peer x
    let missed := match e.lastSeq with
      | some last => min (e.missed + (f.sequence - last - 1).toNat) 255
      | none => e.missed
    let heard : PeerEntry := match e.state with
      | .absent | .gone => { e with state := .present, lastSeq := some f.sequence, silence := some 0 }
      | .present | .silent =>
          { e with state := .present, missed := missed, lastSeq := some f.sequence, silence := some 0 }
    let t0 : State := { (s.itemTaken f rest).setPeer x heard with
      events := match e.state with
        | .absent | .gone => s.events.offer (.peerJoined x)
        | .silent => s.events.offer (.peerReturned x)
        | .present => s.events }
    ((∃ records, f.body = .publish records) ∨ (∃ p, f.body = .claim p) ∨ (∃ p k, f.body = .assert p k) ∨
      (∃ p, f.body = .release p) ∨ (∃ y ids, f.body = .recall y ids) → exec .rosterFrameItem s = .next t0) ∧
    (f.body = .farewell →
      exec .rosterFrameItem s = .next (State.sweep (State.forget x) { t0.setPeer x
        { state := .gone, detached := false, mismatch := false, announced := none, lastSeq := none
          missed := heard.missed, silence := none } with
        events := t0.events.offer (.peerGone x .farewell) })) ∧
    ∀ st fresh held n u, f.body = .presence st fresh held n u →
      let t1 : State :=
        if fresh = true then
          State.sweep (State.restarted x) { t0 with events := t0.events.offer (.peerRestarted x) }
        else t0
      let t2 : State :=
        if st = .detached ∧ e.detached = false then
          State.sweep (State.markDown x) { t1.setPeer x { heard with detached := true } with
            events := t1.events.offer (.peerDetached x) }
        else if st = .active ∧ e.detached = true then
          { t1.setPeer x { heard with detached := false } with events := t1.events.offer (.peerResumed x) }
        else t1
      let differs : Bool := decide (n ≠ s.n ∨ u ≠ s.ctrl.config.pUnits)
      exec .rosterFrameItem s = .next { t2.setPeer x { heard with
          detached := decide (st = .detached)
          announced := some { held := held, n := n, pUnits := u }
          mismatch := differs } with
        events := if differs = true ∧ e.mismatch = false then t2.events.offer (.peerMismatch x n u) else t2.events }

/-- A PUBLISH record or ASSERT from `y` fills a VACANT point, and takes over a STALE point of another owner whose
recorded claimant is `y`: the record becomes a MIRROR of `y` with what the frame brought, and subscribed points post
OWNER_CHANGED, then POINT_CHANGED for a value (R14, R63, R67, R72). -/
def Obligations.HolderFillsAFreePoint : Prop :=
  ∀ (s : State) (f : Frame) (item : FrameItem) (rest : List FrameItem) (p : PointId) (k : Nat) (value : Option Value),
    s.taking f item rest → item.holds p k value →
    (s.pt p).state = .vacant ∨
      ((s.pt p).state = .stale ∧ (s.pt p).owner ≠ none ∧ (s.pt p).owner ≠ some f.source ∧
        (s.pt p).claimant = some f.source) →
    let old := if (s.pt p).state = .vacant then none else (s.pt p).owner
    exec item.row s = .next
      (((s.itemTaken f rest).setPt p ((s.pt p).mirrored f.source (some k) value)).telling p
        (.ownerChanged p old (some f.source) :: changedBy p value))

/-- A PUBLISH record from the recorded owner of a MIRROR, STALE or DISPUTED point. With another length than the recorded
one it is counted in records_rejected. Otherwise, when it is newer or no value is held, it is accepted; when equal, it
refreshes; when older, it is counted in records_old. An accepted or refreshing record sets the age to 0, restarts the
stale timer, and makes a STALE point MIRROR without claimant (R64 to R66, R68). An ASSERT from the owner gives its
length to a record that has none and otherwise changes nothing; an ASSERT of any point whose length lies outside 1 to 8
changes no record and is counted in records_rejected (R14). -/
def Obligations.OwnerKeepsItsMirror : Prop :=
  ∀ (s : State) (f : Frame) (rest : List FrameItem) (p : PointId),
    let old := s.pt p
    let owned := (old.state = .mirror ∨ old.state = .stale ∨ old.state = .disputed) ∧ old.owner = some f.source
    let t := s.itemTaken f rest
    let up (c : Counter) : Counter := if c = 0xFFFF then c else c + 1
    let rejected : State := { t with counters := { s.counters with recordsRejected := up s.counters.recordsRejected } }
    let refreshed : PointRecord := { old with
      state := if old.state = .stale then .mirror else old.state
      claimant := none, age := some 0, staleTimer := some 0 }
    (∀ g octets, s.taking f (.record { point := p, generation := g, octets := octets }) rest → owned →
      let fitting := old.length = none ∨ old.length = some octets.length
      let newer (v : Value) := 1 ≤ (g - v.generation).toNat ∧ (g - v.generation).toNat ≤ 32767
      (¬ fitting → exec .publishRecord s = .next rejected) ∧
      (fitting → (∀ v, old.value = some v → newer v) →
        exec .publishRecord s = .next ((t.setPt p { refreshed with
          length := some octets.length, value := some { octets := octets, generation := g } }).telling p
            [.pointChanged p g])) ∧
      ∀ v, fitting → old.value = some v →
        (g = v.generation → exec .publishRecord s = .next (t.setPt p refreshed)) ∧
        (g ≠ v.generation → ¬ newer v → exec .publishRecord s = .next { t with
          counters := { s.counters with recordsOld := up s.counters.recordsOld } })) ∧
    (∀ o : Octet, s.taking f (.assert p o) rest →
      (o.toNat = 0 ∨ 8 < o.toNat → exec .assertHeard s = .next rejected) ∧
      (1 ≤ o.toNat → o.toNat ≤ 8 → owned →
        (old.length = none → exec .assertHeard s = .next (t.setPt p { old with length := some o.toNat })) ∧
        (old.length ≠ none → exec .assertHeard s = .next t)))

/-- A PUBLISH record or ASSERT from another station on a HELD point. In ACTIVE the higher address yields and the lower
defends: it queues an ASSERT, dropping and reporting the request when 16 wait, and appends the id to the publish list
(R44, R79, R80). In DETACHED the station yields whatever the address (R81). Yielding leaves HELD, makes the record a
MIRROR of the other station and posts OWNERSHIP_LOST, then POINT_CHANGED for a value to a subscribed point. -/
def Obligations.HeldPointIsChallenged : Prop :=
  ∀ (s : State) (f : Frame) (item : FrameItem) (rest : List FrameItem) (p : PointId) (k : Nat) (value : Option Value),
    s.taking f item rest → item.holds p k value → (s.pt p).state = .held →
    let t := s.itemTaken f rest
    let yielded (cause : OwnershipLoss) : State :=
      let u := (t.leaveHeld p).setPt p ((s.pt p).mirrored f.source (some k) value)
      State.telling { u with events := u.events.offer (.ownershipLost p cause (some f.source)) } p (changedBy p value)
    (s.station = .active → f.source < s.own → exec item.row s = .next (yielded .lowerAddress)) ∧
    (s.station = .detached → exec item.row s = .next (yielded .yieldedDetached)) ∧
    (s.station = .active → s.own ≤ f.source → exec item.row s = .next (t.defended p))

/-- What ends with a claim and with a holding. Withdrawing a claim lowers the claiming count and, by phase, removes the
CLAIM request, discards the retry frame, or marks the frame in flight so that a collision discards it (R33). Leaving HELD
lowers the held count, removes the id and the ASSERT request from their lists, and treats an ASSERT frame of the point in
the same way (R45, R153). The mark on a frame in flight is the model's form of R153 (log entry 18). -/
def Obligations.WithdrawnWork : Prop :=
  ∀ (s : State) (p : PointId),
    let shed (gone : Bool) : Option BuiltFrame :=
      match s.tx.frame with
      | some b =>
        if gone = true then
          match b.place with
          | .retry _ => none
          | .inFlight _ => some { b with withdrawn := true }
          | .cutOff => some b
        else some b
      | none => none
    let isClaim : Bool := match s.tx.frame with
      | some b => decide (b.frame.body = .claim p)
      | none => false
    let isAssert : Bool := match s.tx.frame with
      | some b => match b.frame.body with
        | .assert q _ => decide (q = p)
        | _ => false
      | none => false
    ((s.pt p).phase = some .requested → s.withdrawClaim p = { s with
      claimingCount := s.claimingCount - 1
      tx := { s.tx with control := s.tx.control.filter (· ≠ .claim p) } }) ∧
    ((s.pt p).phase = some .sending → s.withdrawClaim p = { s with
      claimingCount := s.claimingCount - 1
      tx := { s.tx with frame := shed isClaim } }) ∧
    ((s.pt p).phase = some .window → s.withdrawClaim p = { s with claimingCount := s.claimingCount - 1 }) ∧
    s.leaveHeld p = { s with
      heldCount := s.heldCount - 1
      tx := { s.tx with
        control := s.tx.control.filter (· ≠ .assert p)
        publish := s.tx.publish.filter (· ≠ p)
        frame := shed isAssert } }

/-- A PUBLISH record or ASSERT from a station other than the owner `x` of a MIRROR, STALE or DISPUTED point, where it is
not the recorded claimant of a STALE point. The contender of a DISPUTED point only restarts the contender timer. Any
other station makes the point DISPUTED: a lower address becomes owner with what its frame brought and `x` contender,
with OWNER_CHANGED, DISPUTE_SEEN and POINT_CHANGED for a value; a higher one becomes contender, the owner's fields are
kept, the stale timer of a STALE record starts from zero, and DISPUTE_SEEN is posted; to subscribed points only (R18,
R68, R83 to R85, R88). -/
def Obligations.DisputeIsEntered : Prop :=
  ∀ (s : State) (f : Frame) (item : FrameItem) (rest : List FrameItem) (p : PointId) (k : Nat) (value : Option Value)
      (x : Addr),
    s.taking f item rest → item.holds p k value →
    (s.pt p).state = .mirror ∨ (s.pt p).state = .stale ∨ (s.pt p).state = .disputed →
    (s.pt p).owner = some x → x ≠ f.source → ¬ ((s.pt p).state = .stale ∧ (s.pt p).claimant = some f.source) →
    let t := s.itemTaken f rest
    let y := f.source
    let r := s.pt p
    (r.state = .disputed → r.contender = some y →
      exec item.row s = .next (t.setPt p { r with contenderTimer := some 0 })) ∧
    (¬ (r.state = .disputed ∧ r.contender = some y) → y < x →
      exec item.row s = .next ((t.setPt p { r.mirrored y (some k) value with
        state := .disputed, contender := some x, contenderTimer := some 0 }).telling p
          (.ownerChanged p (some x) (some y) :: .disputeSeen p y x :: changedBy p value))) ∧
    (¬ (r.state = .disputed ∧ r.contender = some y) → x < y →
      exec item.row s = .next ((t.setPt p { r with
        state := .disputed, claimant := none, contender := some y, contenderTimer := some 0
        staleTimer := if r.state = .stale then some 0 else r.staleTimer }).telling p [.disputeSeen p x y]))

/-- A CLAIMING point loses its claim to any station that acts as its holder, with cause PUBLISHED or ASSERTED, and
becomes a MIRROR of it (R36, R37); to a CLAIM of a lower address it loses the claim with cause CONTENDED and becomes
VACANT with the winner as claimant, and a CLAIM of a higher address changes nothing (R35). CLAIM_LOST is posted whatever
the subscribed flag. -/
def Obligations.ClaimIsLost : Prop :=
  ∀ (s : State) (f : Frame) (item : FrameItem) (rest : List FrameItem) (p : PointId), s.taking f item rest →
    (s.pt p).state = .claiming →
    let t := s.itemTaken f rest
    let y := f.source
    (∀ k value, item.holds p k value →
      let u := (t.withdrawClaim p).setPt p ((s.pt p).mirrored y (some k) value)
      let cause : ClaimLoss := if value.isSome = true then .published else .asserted
      exec item.row s = .next
        (State.telling { u with events := s.events.offer (.claimLost p cause (some y)) } p (changedBy p value))) ∧
    (item = .claim p → y < s.own →
      exec .claimHeard s = .next { (t.withdrawClaim p).setPt p ((s.pt p).vacated (some y)) with
        events := s.events.offer (.claimLost p .contended (some y)) }) ∧
    (item = .claim p → s.own < y → exec .claimHeard s = .next t)

/-- A CLAIM heard from `c`. On a VACANT point, or a STALE one it does not own, the lower of `c` and the recorded
claimant is kept; on a point it owns the record becomes VACANT with `c` as claimant and OWNER_CHANGED to a subscribed
point; a contender's CLAIM restarts the contender timer; on other points of other stations nothing changes (R41). A HELD
point is defended as against an ASSERT in ACTIVE and yielded in DETACHED, VACANT with `c` as claimant and OWNERSHIP_LOST
(R42, R43). -/
def Obligations.ClaimIsHeard : Prop :=
  ∀ (s : State) (f : Frame) (rest : List FrameItem) (p : PointId), s.taking f (.claim p) rest →
    let t := s.itemTaken f rest
    let c := f.source
    let r := s.pt p
    let lower : Option Addr := match r.claimant with
      | some d => some (min c d)
      | none => some c
    let owned := (r.state = .mirror ∨ r.state = .stale ∨ r.state = .disputed) ∧ r.owner = some c
    (r.state = .vacant ∨ (r.state = .stale ∧ r.owner ≠ some c) →
      exec .claimHeard s = .next (t.setPt p { r with claimant := lower })) ∧
    (owned → exec .claimHeard s = .next
      ((t.setPt p (r.vacated (some c))).telling p [.ownerChanged p (some c) none])) ∧
    (r.state = .disputed → r.owner ≠ some c → r.contender = some c →
      exec .claimHeard s = .next (t.setPt p { r with contenderTimer := some 0 })) ∧
    ((r.state = .mirror ∧ r.owner ≠ some c) ∨
      (r.state = .disputed ∧ r.owner ≠ some c ∧ r.contender ≠ some c) → exec .claimHeard s = .next t) ∧
    (r.state = .held → s.station = .active →
      exec .claimHeard s = .next (t.defended p)) ∧
    (r.state = .held → s.station = .detached →
      exec .claimHeard s = .next { (t.leaveHeld p).setPt p (r.vacated (some c)) with
        events := s.events.offer (.ownershipLost p .yieldedDetached none) })

/-- A RELEASE heard from `x`: the owner's makes a MIRROR or STALE point VACANT, the claimant kept unless it is `x`, with
OWNER_CHANGED to a subscribed point (R50); the claimant's clears the claimant (R50); in a DISPUTED point the owner's
promotes the contender with length and value absent and OWNER_CHANGED, and the contender's makes it MIRROR (R51); any
other changes nothing. A RECALL addressed to this station appends the HELD points it names to the publish list in
ACTIVE, and has no effect in DETACHED (R76). -/
def Obligations.ReleaseAndRecallAreHeard : Prop :=
  ∀ (s : State) (f : Frame) (rest : List FrameItem) (p : PointId) (ids : List PointId),
    let t := s.itemTaken f rest
    let x := f.source
    let r := s.pt p
    (s.taking f (.release p) rest →
      ((r.state = .mirror ∨ r.state = .stale) → r.owner = some x →
        exec .releaseHeard s = .next ((t.setPt p
          (r.vacated (if r.claimant = some x then none else r.claimant))).telling p [.ownerChanged p (some x) none])) ∧
      (r.state = .vacant ∨ (r.state = .stale ∧ r.owner ≠ some x) → r.claimant = some x →
        exec .releaseHeard s = .next (t.setPt p { r with claimant := none })) ∧
      (r.state = .disputed → r.owner = some x → ∀ y, r.contender = some y →
        exec .releaseHeard s = .next ((t.setPt p (r.mirrored y none none)).telling p
          [.ownerChanged p (some x) (some y)])) ∧
      (r.state = .disputed → r.owner ≠ some x → r.contender = some x →
        exec .releaseHeard s = .next (t.setPt p
          { r with state := .mirror, contender := none, contenderTimer := none })) ∧
      (r.state = .claiming ∨ r.state = .held ∨
        (r.owner ≠ some x ∧ r.contender ≠ some x ∧ r.claimant ≠ some x) → exec .releaseHeard s = .next t)) ∧
    (s.taking f (.recall ids) rest →
      (s.station = .active → exec .recallHeard s = .next { t with
        tx := { s.tx with publish := ids.foldl (fun l p =>
          if (s.pt p).state = .held ∧ p ∉ l then l ++ [p] else l) s.tx.publish } }) ∧
      (s.station ≠ .active → exec .recallHeard s = .next t))

/-! ### Timers -/

/-- The timers of a point. The claim window running out in ACTIVE makes a CLAIMING point HELD with the own address as
owner and generation 0, moves it between the counts, starts the refresh timer, appends the id and posts CLAIM_WON (R34).
The refresh timer of a HELD point stops at P and in ACTIVE appends the id, if absent (R16). At 3P the stale timer of a
MIRROR or DISPUTED point makes it STALE without contender, with POINT_STALE to a subscribed point (R70, R90), and the
contender timer makes a DISPUTED point MIRROR (R89). A timer that is stopped, or that was restarted and stands below its
limit, has not reached it: nothing changes (log entries 1 and 2). -/
def Obligations.PointTimersExpire : Prop :=
  ∀ (s : State) (p : PointId),
    let r := s.pt p
    let due (timer : Option Nat) (limit : Nat) := ∃ ms, timer = some ms ∧ limit ≤ ms
    let listed : List PointId := if p ∈ s.tx.publish then s.tx.publish else s.tx.publish ++ [p]
    let runs := s.station = .listening ∨ s.station = .active ∨ s.station = .detached ∨ s.station = .leaving
    (s.station = .active → r.state = .claiming → due r.claimWindow s.period → ∀ v, r.value = some v →
      exec (.claimWindowExpiry p) s = .next { s.setPt p
          { state := .held, owner := some s.own, claimant := none, contender := none, length := r.length
            value := some { octets := v.octets, generation := 0 }, age := none, phase := none
            subscribed := r.subscribed, claimWindow := none, refreshTimer := some 0, staleTimer := none
            contenderTimer := none } with
        heldCount := s.heldCount + 1
        claimingCount := s.claimingCount - 1
        tx := { s.tx with publish := listed }
        events := s.events.offer (.claimWon p) }) ∧
    (s.station = .active → r.state = .held → due r.refreshTimer s.period →
      exec (.refreshTimerExpiry p) s = .next { s.setPt p { r with refreshTimer := none } with
        tx := { s.tx with publish := listed } }) ∧
    (s.station = .detached → r.state = .held → due r.refreshTimer s.period →
      exec (.refreshTimerExpiry p) s = .next (s.setPt p { r with refreshTimer := none })) ∧
    (∀ x, runs → r.state = .mirror ∨ r.state = .disputed → due r.staleTimer (3 * s.period) → r.owner = some x →
      exec (.staleTimerExpiry p) s = .next ((s.setPt p
        { r with state := .stale, contender := none, staleTimer := none, contenderTimer := none }).telling p
          [.pointStale p x])) ∧
    (runs → r.state = .disputed → due r.contenderTimer (3 * s.period) →
      exec (.contenderTimerExpiry p) s = .next (s.setPt p
        { r with state := .mirror, contender := none, contenderTimer := none })) ∧
    (¬ due r.claimWindow s.period → exec (.claimWindowExpiry p) s = .next s) ∧
    (¬ due r.refreshTimer s.period → exec (.refreshTimerExpiry p) s = .next s) ∧
    (¬ due r.staleTimer (3 * s.period) → exec (.staleTimerExpiry p) s = .next s) ∧
    (¬ due r.contenderTimer (3 * s.period) → exec (.contenderTimerExpiry p) s = .next s)

/-- The timers of the station. The listen timer at 3P enters ACTIVE with cause LISTEN_DONE, the fresh-start marker set,
the presence timer started and, where L is not 0, the lease; slots are offered from the next ladder, or round of a
running ladder, on (R109, R147). The presence timer at P starts again and queues a PRESENCE request, unless one waits;
with 16 waiting the request is dropped, counted and reported (R113). The lease at its limit in ACTIVE enters DETACHED
with cause LEASE, and does not where a command that became complete has restarted it (R198); so with each of the three,
a timer below its limit changes nothing (log entries 1 and 2). Entering DETACHED, with whatever cause, does this (R199):
every CLAIMING point, in ascending order, loses its claim with cause DETACHED, its CLAIM withdrawn by its phase and a
RELEASE queued, if there is room, unless it was still REQUESTED (R33, R39); the publish list is emptied. -/
def Obligations.StationTimersExpire : Prop :=
  ∀ s : State,
    let up (c : Counter) : Counter := if c = 0xFFFF then c else c + 1
    let due (timer : Option Nat) (limit : Nat) := ∃ ms, timer = some ms ∧ limit ≤ ms
    (s.station = .listening → due s.ctrl.listenTimer (3 * s.period) →
      exec .listenTimerExpiry s = .next { s with
        ctrl := { s.ctrl with
          state := .active, cause := some .listenDone, listenTimer := none, presenceTimer := some 0
          leaseTimer := if s.ctrl.config.lease = 0 then none else some 0, freshStart := true }
        line := { s.line with ladder := s.line.ladder.map fun l =>
          { round := l.round, next := l.next, offeredFrom := l.round + 1 } }
        events := s.events.offer (.stationState .active (some .listenDone)) }) ∧
    (s.station = .active ∨ s.station = .detached → due s.ctrl.presenceTimer s.period →
      let t : State := { s with ctrl := { s.ctrl with presenceTimer := some 0 } }
      (Request.presence ∈ s.tx.control → exec .presenceTimerExpiry s = .next t) ∧
      (Request.presence ∉ s.tx.control → s.tx.control.length < 16 →
        exec .presenceTimerExpiry s = .next { t with
          tx := { s.tx with control := s.tx.control ++ [.presence] } }) ∧
      (Request.presence ∉ s.tx.control → 16 ≤ s.tx.control.length →
        exec .presenceTimerExpiry s = .next { t with
          counters := { s.counters with txDropped := up s.counters.txDropped }
          events := s.events.offer (.txDropped .presence none) })) ∧
    (s.station = .active → due s.ctrl.leaseTimer (50 * s.ctrl.config.lease.toNat) →
      exec .leaseExpiry s = .next (s.enterDetached .lease)) ∧
    (¬ due s.ctrl.listenTimer (3 * s.period) → exec .listenTimerExpiry s = .next s) ∧
    (¬ due s.ctrl.presenceTimer s.period → exec .presenceTimerExpiry s = .next s) ∧
    (¬ due s.ctrl.leaseTimer (50 * s.ctrl.config.lease.toNat) → exec .leaseExpiry s = .next s) ∧
    ∀ cause,
      let lost := (List.finRange 256).filter fun p => (s.pt p).state = .claiming
      let t := s.enterDetached cause
      t = { s with
        ctrl := { s.ctrl with state := .detached, cause := some cause, leaseTimer := none }
        points := t.points
        claimingCount := s.claimingCount - lost.length
        tx := { s.tx with
          control := lost.foldl (fun l p =>
            if (s.pt p).phase = some .requested then l.filter (· ≠ .claim p)
            else if Request.release p ∈ l ∨ 16 ≤ l.length then l
            else l ++ [.release p]) s.tx.control
          publish := []
          frame := t.tx.frame }
        events := (lost.map fun p => Event.claimLost p .detached none).foldl EventQueue.offer
          (s.events.offer (.stationState .detached (some cause))) } ∧
      (∀ p, t.pt p = if (s.pt p).state = .claiming then (s.pt p).vacated none else s.pt p) ∧
      t.tx.frame = match s.tx.frame with
        | some b =>
          match b.frame.body, b.place with
          | .claim p, .retry _ =>
              if (s.pt p).state = .claiming ∧ (s.pt p).phase = some .sending then none else some b
          | .claim p, .inFlight _ =>
              if (s.pt p).state = .claiming ∧ (s.pt p).phase = some .sending then some { b with withdrawn := true }
              else some b
          | _, _ => some b
        | none => none

/-- The silence of a peer. At 2P a PRESENT peer becomes SILENT, with PEER_SILENT and the SILENT notification, the time
running on (R92, R125). At 5P a SILENT peer becomes GONE with cause TIMEOUT, its flags cleared and its optional fields
absent, the missed count kept, with PEER_GONE and the GONE notification (R94, R126); the body items that remain of its
frame being applied are discarded when its roster item has been taken (R143). A silence time below the limit changes
nothing (log entries 1 and 2). -/
def Obligations.SilenceMakesSilentThenGone : Prop :=
  ∀ (s : State) (x : Addr) (ms : Nat),
    s.station = .listening ∨ s.station = .active ∨ s.station = .detached ∨ s.station = .leaving →
    (s.peer x).silence = some ms →
    (ms < 2 * s.period → exec (.silenceTimer2P x) s = .next s) ∧
    (ms < 5 * s.period → exec (.silenceTimer5P x) s = .next s) ∧
    ((s.peer x).state = .present → 2 * s.period ≤ ms → exec (.silenceTimer2P x) s = .next (State.sweep (State.markDown x)
      { s.setPeer x { s.peer x with state := .silent } with
        events := s.events.offer (.peerSilent x) })) ∧
    ((s.peer x).state = .silent → 5 * s.period ≤ ms →
      let t := State.sweep (State.forget x)
        { s.setPeer x
            { state := .gone, detached := false, mismatch := false, announced := none, lastSeq := none
              missed := (s.peer x).missed, silence := none } with
          events := s.events.offer (.peerGone x .timeout) }
      exec (.silenceTimer5P x) s = .next { t with rx := { s.rx with
        applying := match s.rx.applying with
          | some a => if a.frame.source = x ∧ FrameItem.roster ∉ a.items then none else some a
          | none => none } })

/-! ### Events and outputs -/

/-- The Event Queue takes a record: a POINT_CHANGED replaces the generation of the waiting POINT_CHANGED of its point,
and an RX_OVERRUN raises the count of the waiting one, up to 255, each in its place; any other record is appended while
fewer than 32 wait, and otherwise raises the lost-event count, up to 255 (R207 to R209). -/
def Obligations.EventsAreQueuedMergedOrLost : Prop :=
  ∀ (q : EventQueue) (e : Event) (before after : List Event),
    (∀ p g old, e = .pointChanged p g → q.records = before ++ .pointChanged p old :: after →
      (∀ w ∈ before ++ after, ∀ o, w ≠ .pointChanged p o) →
      q.offer e = { records := before ++ .pointChanged p g :: after, lost := q.lost }) ∧
    (∀ k old, e = .rxOverrun k → q.records = before ++ .rxOverrun old :: after →
      (∀ w ∈ before ++ after, ∀ o, w ≠ .rxOverrun o) →
      q.offer e = { records := before ++ .rxOverrun (min (old + 1) 255) :: after, lost := q.lost }) ∧
    ((∀ p g, e = .pointChanged p g → ∀ o, Event.pointChanged p o ∉ q.records) →
      (∀ k, e = .rxOverrun k → ∀ o, Event.rxOverrun o ∉ q.records) →
      (q.records.length < 32 → q.offer e = { records := q.records ++ [e], lost := q.lost }) ∧
      (32 ≤ q.records.length → q.offer e = { records := q.records, lost := min (q.lost + 1) 255 }))

/-- ATTNn is asserted while an event or a condition record waits, and in DETACHED and CLASHED (R213). TXEN is asserted,
and an octet goes out on TXD, exactly while a frame of the station is being sent (R150). The outputs are computed from
the state (log entry 15). -/
def Obligations.OutputsFollowTheState : Prop :=
  ∀ s : State,
    (s.attention = true ↔ s.events.records ≠ [] ∨ s.host.condition ≠ none ∨ s.station = .detached ∨
      s.station = .clashed) ∧
    (s.txen = s.txd.isSome) ∧
    (s.txen = true ↔ s.line.state = .sending ∧ ∃ b, s.tx.frame = some b ∧ b.readBack < b.frame.encode.length)

/-! ### Frames as octets -/

/-- The octets of a frame, by kind: code, source, destination, sequence, body, and the CRC of all these, high octet
first; the CRC is the remainder left by x^16 + x^12 + x^5 + 1 in a register that starts at 0xFFFF and takes the octets'
bits, most significant first (R132, R133, R216). Every well-formed frame is 6 to 55 octets long, ends in its CRC and
reads back as itself (R131 to R133, R135, R216); and octets that read as a frame are those of a well-formed one: header
and body are what that frame sends, but for bits 1 to 7 of the flags octet of a PRESENCE, which a receiver ignores
(R216). -/
def Obligations.FramesReadBackExactly : Prop :=
  let two (w : BitVec 16) : List Octet := [w.extractLsb' 8 8, w.extractLsb' 0 8]
  let point (p : PointId) : Octet := BitVec.ofNat 8 p.val
  let count (k : Nat) : Octet := BitVec.ofNat 8 k
  let shift (r : BitVec 16) (bit : Bool) : BitVec 16 :=
    if r.getLsbD 15 ≠ bit then (r <<< 1) ^^^ 0x1021 else r <<< 1
  let bits (o : Octet) : List Bool := [7, 6, 5, 4, 3, 2, 1, 0].map o.getLsbD
  (∀ octets : List Octet, crcOf octets = (octets.flatMap bits).foldl shift 0xFFFF) ∧
  (∀ f : Frame, f.encode = f.covered ++ two (crcOf f.covered) ∧
    f.covered = match f.body with
      | .presence st fresh held n u =>
          [0x51, count f.source.val, 0xFF, f.sequence, (match st with | .active => 0x02 | .detached => 0x03),
            if fresh then 0x01 else 0x00, count held, count n.toNat, u]
      | .publish records =>
          [0x52, count f.source.val, 0xFF, f.sequence, count records.length] ++
            records.flatMap fun r => [point r.point] ++ two r.generation ++ [count r.octets.length] ++ r.octets
      | .claim p => [0x53, count f.source.val, 0xFF, f.sequence, point p]
      | .assert p k => [0x54, count f.source.val, 0xFF, f.sequence, point p, k]
      | .release p => [0x55, count f.source.val, 0xFF, f.sequence, point p]
      | .recall x ids =>
          [0x56, count f.source.val, count x.val, f.sequence, count ids.length] ++ ids.map point
      | .farewell => [0x57, count f.source.val, 0xFF, f.sequence]) ∧
  (∀ (n : SegmentSize) (f : Frame), f.wf n = true →
    6 ≤ f.encode.length ∧ f.encode.length ≤ 55 ∧ crcMatches f.encode = true ∧ readFrame n f.encode = some f) ∧
  ∀ (n : SegmentSize) (octets : List Octet) (f : Frame), readFrame n octets = some f →
    f.wf n = true ∧
    ((∀ st fresh held m u, f.body ≠ .presence st fresh held m u) → octets.take (octets.length - 2) = f.covered) ∧
    ∀ st fresh held m u, f.body = .presence st fresh held m u →
      ∃ flags : Octet, flags.getLsbD 0 = fresh ∧ octets.take (octets.length - 2) = f.covered.set 5 flags

/-! ### What every step keeps -/

/-- Every step keeps the shape of every record by its state (R2 to R13) and of the frames taken and being applied (R134,
R141, R142). -/
def Obligations.RecordsStayFit : Prop :=
  ∀ s t : State, s.RecordsFit → s.ReceptionFits → step s = .next t → t.RecordsFit ∧ t.ReceptionFits

/-- Every step keeps the two counts equal to the numbers of HELD and CLAIMING records and within 4 and 64 (R25), the
publish list free of repeats and of points that are not HELD (R57), and the control list free of repeats and at most 16
long (R156). -/
def Obligations.CountsAndListsStayFit : Prop :=
  ∀ s t : State, step s = .next t →
    (s.CountsAgree → t.CountsAgree) ∧ (s.PublishListFits → t.PublishListFits) ∧ (s.ControlListFits → t.ControlListFits)

/-- Every step keeps the Event Queue within 32 records, merged, with its lost count (R204, R207 to R210), the Receive
FIFO, the frame being assembled and the command queue within their sizes (R131, R140, R172), groups read only for a GET
STATION in hand (R172, R178), and a condition record only under strict discipline (R191, R192). -/
def Obligations.QueuesStayFit : Prop :=
  ∀ s t : State, step s = .next t →
    (s.events.Fits → t.events.Fits) ∧ (s.QueuesFit → t.QueuesFit) ∧ (s.ConditionFits → t.ConditionFits)

/-- Every step keeps the station timers running exactly in their station states (R107, R109, R113, R197), the Line
Interface OFF exactly in OFFLINE and SENDING exactly while a frame is in flight, the ladder running exactly while it is
IDLE, with slots 0 to N in a round and offered from the next round at the latest (R106, R109, R131, R147, R150), and the
Scheduler's work within its station states (R57, R116, R117, R157, R165). -/
def Obligations.StationWorkStaysFit : Prop :=
  ∀ s t : State, step s = .next t →
    (s.TimersFit → t.TimersFit) ∧ (s.LineFits → t.LineFits) ∧ (s.WorkFits → t.WorkFits)

/-- Every step keeps it true that no record names a station whose roster entry is ABSENT or GONE (R2), and that the
entries carry the fields of their states (R121). -/
def Obligations.NamesStayKnown : Prop :=
  ∀ s t : State, s.NamesKnown → s.RosterFits → s.RecordsFit → s.ReceptionFits → step s = .next t →
    t.NamesKnown ∧ t.RosterFits

/-- Apart from reset, the station state changes only along the changes that chapter 5 lists, each with its cause, and
where it does not change its cause does not (R105, section 5.3). -/
def Obligations.StationStateChangesFollowTheTable : Prop :=
  ∀ s t : State, s.WorkFits → step s = .next t →
    (∀ rest, s.pending ≠ .reset :: rest) → (∀ address rate rest, s.pending ≠ .resetRelease address rate :: rest) →
    (t.station = s.station ∧ t.ctrl.cause = s.ctrl.cause) ∨
    ∃ c, t.ctrl.cause = some c ∧ (s.station, t.station, c) ∈
      [(StationState.offline, StationState.listening, Cause.host), (.listening, .active, .listenDone),
       (.listening, .offline, .host), (.listening, .clashed, .clash), (.active, .detached, .lease),
       (.active, .detached, .discipline), (.active, .leaving, .host), (.active, .clashed, .clash),
       (.detached, .active, .host), (.detached, .leaving, .host), (.detached, .clashed, .clash),
       (.leaving, .offline, .leaveDone), (.clashed, .offline, .host)]

/-- In CLASHED, until LEAVE ends the session or the part is reset, no step changes the station's state or a timer of its
own, a record, a count, the roster, or anything of the Transmit Scheduler, whatever arrives on either port (R19, R120,
R127). -/
def Obligations.ClashedIsFrozen : Prop :=
  ∀ s t : State, s.LineFits → s.station = .clashed → step s = .next t →
    (∀ rest, s.pending ≠ .reset :: rest) → (∀ address rate rest, s.pending ≠ .resetRelease address rate :: rest) →
    (t.ctrl = s.ctrl ∧ t.points = s.points ∧ t.roster = s.roster ∧ t.heldCount = s.heldCount ∧
      t.claimingCount = s.claimingCount ∧ t.tx = s.tx) ∨
    (t.station = .offline ∧ ∃ rest, s.pending = .leave :: rest)
end

