-- ==== Sys2Proof/Laws/State.lean ====
section
/-! SUPPORT. One lemma per field and update of `State`: what a named update writes, and that it leaves every other field
alone. -/

namespace Sys2Proof.Machine

/-! ### `State.setPt` -/

@[simp] theorem State.setPt_pins (s : State) (p : PointId) (r : PointRecord) : (s.setPt p r).pins = s.pins := rfl
@[simp] theorem State.setPt_straps (s : State) (p : PointId) (r : PointRecord) :
    (s.setPt p r).straps = s.straps := rfl
@[simp] theorem State.setPt_ctrl (s : State) (p : PointId) (r : PointRecord) : (s.setPt p r).ctrl = s.ctrl := rfl
@[simp] theorem State.setPt_points (s : State) (p : PointId) (r : PointRecord) :
    (s.setPt p r).points = s.points.set p r := rfl
@[simp] theorem State.setPt_heldCount (s : State) (p : PointId) (r : PointRecord) :
    (s.setPt p r).heldCount = s.heldCount := rfl
@[simp] theorem State.setPt_claimingCount (s : State) (p : PointId) (r : PointRecord) :
    (s.setPt p r).claimingCount = s.claimingCount := rfl
@[simp] theorem State.setPt_counters (s : State) (p : PointId) (r : PointRecord) :
    (s.setPt p r).counters = s.counters := rfl
@[simp] theorem State.setPt_tx (s : State) (p : PointId) (r : PointRecord) : (s.setPt p r).tx = s.tx := rfl
@[simp] theorem State.setPt_line (s : State) (p : PointId) (r : PointRecord) : (s.setPt p r).line = s.line := rfl
@[simp] theorem State.setPt_rx (s : State) (p : PointId) (r : PointRecord) : (s.setPt p r).rx = s.rx := rfl
@[simp] theorem State.setPt_roster (s : State) (p : PointId) (r : PointRecord) :
    (s.setPt p r).roster = s.roster := rfl
@[simp] theorem State.setPt_host (s : State) (p : PointId) (r : PointRecord) : (s.setPt p r).host = s.host := rfl
@[simp] theorem State.setPt_events (s : State) (p : PointId) (r : PointRecord) :
    (s.setPt p r).events = s.events := rfl
@[simp] theorem State.setPt_pending (s : State) (p : PointId) (r : PointRecord) :
    (s.setPt p r).pending = s.pending := rfl
@[simp] theorem State.setPt_breaks (s : State) (p : PointId) (r : PointRecord) :
    (s.setPt p r).breaks = s.breaks := rfl
@[simp] theorem State.setPt_slotFirst (s : State) (p : PointId) (r : PointRecord) :
    (s.setPt p r).slotFirst = s.slotFirst := rfl

/-! ### `State.setPeer` -/

@[simp] theorem State.setPeer_pins (s : State) (x : Addr) (e : PeerEntry) : (s.setPeer x e).pins = s.pins := rfl
@[simp] theorem State.setPeer_straps (s : State) (x : Addr) (e : PeerEntry) : (s.setPeer x e).straps = s.straps := rfl
@[simp] theorem State.setPeer_ctrl (s : State) (x : Addr) (e : PeerEntry) : (s.setPeer x e).ctrl = s.ctrl := rfl
@[simp] theorem State.setPeer_points (s : State) (x : Addr) (e : PeerEntry) : (s.setPeer x e).points = s.points := rfl
@[simp] theorem State.setPeer_heldCount (s : State) (x : Addr) (e : PeerEntry) :
    (s.setPeer x e).heldCount = s.heldCount := rfl
@[simp] theorem State.setPeer_claimingCount (s : State) (x : Addr) (e : PeerEntry) :
    (s.setPeer x e).claimingCount = s.claimingCount := rfl
@[simp] theorem State.setPeer_counters (s : State) (x : Addr) (e : PeerEntry) :
    (s.setPeer x e).counters = s.counters := rfl
@[simp] theorem State.setPeer_tx (s : State) (x : Addr) (e : PeerEntry) : (s.setPeer x e).tx = s.tx := rfl
@[simp] theorem State.setPeer_line (s : State) (x : Addr) (e : PeerEntry) : (s.setPeer x e).line = s.line := rfl
@[simp] theorem State.setPeer_rx (s : State) (x : Addr) (e : PeerEntry) : (s.setPeer x e).rx = s.rx := rfl
@[simp] theorem State.setPeer_roster (s : State) (x : Addr) (e : PeerEntry) :
    (s.setPeer x e).roster = s.roster.set x e := rfl
@[simp] theorem State.setPeer_host (s : State) (x : Addr) (e : PeerEntry) : (s.setPeer x e).host = s.host := rfl
@[simp] theorem State.setPeer_events (s : State) (x : Addr) (e : PeerEntry) : (s.setPeer x e).events = s.events := rfl
@[simp] theorem State.setPeer_pending (s : State) (x : Addr) (e : PeerEntry) :
    (s.setPeer x e).pending = s.pending := rfl
@[simp] theorem State.setPeer_breaks (s : State) (x : Addr) (e : PeerEntry) : (s.setPeer x e).breaks = s.breaks := rfl
@[simp] theorem State.setPeer_slotFirst (s : State) (x : Addr) (e : PeerEntry) :
    (s.setPeer x e).slotFirst = s.slotFirst := rfl

/-! ### `State.offer` -/

@[simp] theorem State.offer_pins (s : State) (e : Event) : (s.offer e).pins = s.pins := rfl
@[simp] theorem State.offer_straps (s : State) (e : Event) : (s.offer e).straps = s.straps := rfl
@[simp] theorem State.offer_ctrl (s : State) (e : Event) : (s.offer e).ctrl = s.ctrl := rfl
@[simp] theorem State.offer_points (s : State) (e : Event) : (s.offer e).points = s.points := rfl
@[simp] theorem State.offer_heldCount (s : State) (e : Event) : (s.offer e).heldCount = s.heldCount := rfl
@[simp] theorem State.offer_claimingCount (s : State) (e : Event) : (s.offer e).claimingCount = s.claimingCount := rfl
@[simp] theorem State.offer_counters (s : State) (e : Event) : (s.offer e).counters = s.counters := rfl
@[simp] theorem State.offer_tx (s : State) (e : Event) : (s.offer e).tx = s.tx := rfl
@[simp] theorem State.offer_line (s : State) (e : Event) : (s.offer e).line = s.line := rfl
@[simp] theorem State.offer_rx (s : State) (e : Event) : (s.offer e).rx = s.rx := rfl
@[simp] theorem State.offer_roster (s : State) (e : Event) : (s.offer e).roster = s.roster := rfl
@[simp] theorem State.offer_host (s : State) (e : Event) : (s.offer e).host = s.host := rfl
@[simp] theorem State.offer_events (s : State) (e : Event) : (s.offer e).events = s.events.offer e := rfl
@[simp] theorem State.offer_pending (s : State) (e : Event) : (s.offer e).pending = s.pending := rfl
@[simp] theorem State.offer_breaks (s : State) (e : Event) : (s.offer e).breaks = s.breaks := rfl
@[simp] theorem State.offer_slotFirst (s : State) (e : Event) : (s.offer e).slotFirst = s.slotFirst := rfl

/-! ### `State.offerPoint` -/

@[simp] theorem State.offerPoint_pins (s : State) (p : PointId) (e : Event) : (s.offerPoint p e).pins = s.pins := by
  unfold State.offerPoint; repeat' split
  all_goals rfl
@[simp] theorem State.offerPoint_straps (s : State) (p : PointId) (e : Event) :
    (s.offerPoint p e).straps = s.straps := by
  unfold State.offerPoint; repeat' split
  all_goals rfl
@[simp] theorem State.offerPoint_ctrl (s : State) (p : PointId) (e : Event) : (s.offerPoint p e).ctrl = s.ctrl := by
  unfold State.offerPoint; repeat' split
  all_goals rfl
@[simp] theorem State.offerPoint_points (s : State) (p : PointId) (e : Event) :
    (s.offerPoint p e).points = s.points := by
  unfold State.offerPoint; repeat' split
  all_goals rfl
@[simp] theorem State.offerPoint_heldCount (s : State) (p : PointId) (e : Event) :
    (s.offerPoint p e).heldCount = s.heldCount := by
  unfold State.offerPoint; repeat' split
  all_goals rfl
@[simp] theorem State.offerPoint_claimingCount (s : State) (p : PointId) (e : Event) :
    (s.offerPoint p e).claimingCount = s.claimingCount := by
  unfold State.offerPoint; repeat' split
  all_goals rfl
@[simp] theorem State.offerPoint_counters (s : State) (p : PointId) (e : Event) :
    (s.offerPoint p e).counters = s.counters := by
  unfold State.offerPoint; repeat' split
  all_goals rfl
@[simp] theorem State.offerPoint_tx (s : State) (p : PointId) (e : Event) : (s.offerPoint p e).tx = s.tx := by
  unfold State.offerPoint; repeat' split
  all_goals rfl
@[simp] theorem State.offerPoint_line (s : State) (p : PointId) (e : Event) : (s.offerPoint p e).line = s.line := by
  unfold State.offerPoint; repeat' split
  all_goals rfl
@[simp] theorem State.offerPoint_rx (s : State) (p : PointId) (e : Event) : (s.offerPoint p e).rx = s.rx := by
  unfold State.offerPoint; repeat' split
  all_goals rfl
@[simp] theorem State.offerPoint_roster (s : State) (p : PointId) (e : Event) :
    (s.offerPoint p e).roster = s.roster := by
  unfold State.offerPoint; repeat' split
  all_goals rfl
@[simp] theorem State.offerPoint_host (s : State) (p : PointId) (e : Event) : (s.offerPoint p e).host = s.host := by
  unfold State.offerPoint; repeat' split
  all_goals rfl
@[simp] theorem State.offerPoint_pending (s : State) (p : PointId) (e : Event) :
    (s.offerPoint p e).pending = s.pending := by
  unfold State.offerPoint; repeat' split
  all_goals rfl
@[simp] theorem State.offerPoint_breaks (s : State) (p : PointId) (e : Event) :
    (s.offerPoint p e).breaks = s.breaks := by
  unfold State.offerPoint; repeat' split
  all_goals rfl
@[simp] theorem State.offerPoint_slotFirst (s : State) (p : PointId) (e : Event) :
    (s.offerPoint p e).slotFirst = s.slotFirst := by
  unfold State.offerPoint; repeat' split
  all_goals rfl

/-! ### `State.countOld` -/

@[simp] theorem State.countOld_pins (s : State) : s.countOld.pins = s.pins := rfl
@[simp] theorem State.countOld_straps (s : State) : s.countOld.straps = s.straps := rfl
@[simp] theorem State.countOld_ctrl (s : State) : s.countOld.ctrl = s.ctrl := rfl
@[simp] theorem State.countOld_points (s : State) : s.countOld.points = s.points := rfl
@[simp] theorem State.countOld_heldCount (s : State) : s.countOld.heldCount = s.heldCount := rfl
@[simp] theorem State.countOld_claimingCount (s : State) : s.countOld.claimingCount = s.claimingCount := rfl
@[simp] theorem State.countOld_tx (s : State) : s.countOld.tx = s.tx := rfl
@[simp] theorem State.countOld_line (s : State) : s.countOld.line = s.line := rfl
@[simp] theorem State.countOld_rx (s : State) : s.countOld.rx = s.rx := rfl
@[simp] theorem State.countOld_roster (s : State) : s.countOld.roster = s.roster := rfl
@[simp] theorem State.countOld_host (s : State) : s.countOld.host = s.host := rfl
@[simp] theorem State.countOld_events (s : State) : s.countOld.events = s.events := rfl
@[simp] theorem State.countOld_pending (s : State) : s.countOld.pending = s.pending := rfl
@[simp] theorem State.countOld_breaks (s : State) : s.countOld.breaks = s.breaks := rfl
@[simp] theorem State.countOld_slotFirst (s : State) : s.countOld.slotFirst = s.slotFirst := rfl

/-! ### `State.countRejected` -/

@[simp] theorem State.countRejected_pins (s : State) : s.countRejected.pins = s.pins := rfl
@[simp] theorem State.countRejected_straps (s : State) : s.countRejected.straps = s.straps := rfl
@[simp] theorem State.countRejected_ctrl (s : State) : s.countRejected.ctrl = s.ctrl := rfl
@[simp] theorem State.countRejected_points (s : State) : s.countRejected.points = s.points := rfl
@[simp] theorem State.countRejected_heldCount (s : State) : s.countRejected.heldCount = s.heldCount := rfl
@[simp] theorem State.countRejected_claimingCount (s : State) : s.countRejected.claimingCount = s.claimingCount := rfl
@[simp] theorem State.countRejected_tx (s : State) : s.countRejected.tx = s.tx := rfl
@[simp] theorem State.countRejected_line (s : State) : s.countRejected.line = s.line := rfl
@[simp] theorem State.countRejected_rx (s : State) : s.countRejected.rx = s.rx := rfl
@[simp] theorem State.countRejected_roster (s : State) : s.countRejected.roster = s.roster := rfl
@[simp] theorem State.countRejected_host (s : State) : s.countRejected.host = s.host := rfl
@[simp] theorem State.countRejected_events (s : State) : s.countRejected.events = s.events := rfl
@[simp] theorem State.countRejected_pending (s : State) : s.countRejected.pending = s.pending := rfl
@[simp] theorem State.countRejected_breaks (s : State) : s.countRejected.breaks = s.breaks := rfl
@[simp] theorem State.countRejected_slotFirst (s : State) : s.countRejected.slotFirst = s.slotFirst := rfl

/-! ### `State.countFraming` -/

@[simp] theorem State.countFraming_pins (s : State) : s.countFraming.pins = s.pins := rfl
@[simp] theorem State.countFraming_straps (s : State) : s.countFraming.straps = s.straps := rfl
@[simp] theorem State.countFraming_ctrl (s : State) : s.countFraming.ctrl = s.ctrl := rfl
@[simp] theorem State.countFraming_points (s : State) : s.countFraming.points = s.points := rfl
@[simp] theorem State.countFraming_heldCount (s : State) : s.countFraming.heldCount = s.heldCount := rfl
@[simp] theorem State.countFraming_claimingCount (s : State) : s.countFraming.claimingCount = s.claimingCount := rfl
@[simp] theorem State.countFraming_tx (s : State) : s.countFraming.tx = s.tx := rfl
@[simp] theorem State.countFraming_line (s : State) : s.countFraming.line = s.line := rfl
@[simp] theorem State.countFraming_rx (s : State) : s.countFraming.rx = s.rx := rfl
@[simp] theorem State.countFraming_roster (s : State) : s.countFraming.roster = s.roster := rfl
@[simp] theorem State.countFraming_host (s : State) : s.countFraming.host = s.host := rfl
@[simp] theorem State.countFraming_events (s : State) : s.countFraming.events = s.events := rfl
@[simp] theorem State.countFraming_pending (s : State) : s.countFraming.pending = s.pending := rfl
@[simp] theorem State.countFraming_breaks (s : State) : s.countFraming.breaks = s.breaks := rfl
@[simp] theorem State.countFraming_slotFirst (s : State) : s.countFraming.slotFirst = s.slotFirst := rfl

/-! ### `State.countDropped` -/

@[simp] theorem State.countDropped_pins (s : State) (k : FrameKind) (p : Option PointId) :
    (s.countDropped k p).pins = s.pins := rfl
@[simp] theorem State.countDropped_straps (s : State) (k : FrameKind) (p : Option PointId) :
    (s.countDropped k p).straps = s.straps := rfl
@[simp] theorem State.countDropped_ctrl (s : State) (k : FrameKind) (p : Option PointId) :
    (s.countDropped k p).ctrl = s.ctrl := rfl
@[simp] theorem State.countDropped_points (s : State) (k : FrameKind) (p : Option PointId) :
    (s.countDropped k p).points = s.points := rfl
@[simp] theorem State.countDropped_heldCount (s : State) (k : FrameKind) (p : Option PointId) :
    (s.countDropped k p).heldCount = s.heldCount := rfl
@[simp] theorem State.countDropped_claimingCount (s : State) (k : FrameKind) (p : Option PointId) :
    (s.countDropped k p).claimingCount = s.claimingCount := rfl
@[simp] theorem State.countDropped_tx (s : State) (k : FrameKind) (p : Option PointId) :
    (s.countDropped k p).tx = s.tx := rfl
@[simp] theorem State.countDropped_line (s : State) (k : FrameKind) (p : Option PointId) :
    (s.countDropped k p).line = s.line := rfl
@[simp] theorem State.countDropped_rx (s : State) (k : FrameKind) (p : Option PointId) :
    (s.countDropped k p).rx = s.rx := rfl
@[simp] theorem State.countDropped_roster (s : State) (k : FrameKind) (p : Option PointId) :
    (s.countDropped k p).roster = s.roster := rfl
@[simp] theorem State.countDropped_host (s : State) (k : FrameKind) (p : Option PointId) :
    (s.countDropped k p).host = s.host := rfl
@[simp] theorem State.countDropped_events (s : State) (k : FrameKind) (p : Option PointId) :
    (s.countDropped k p).events = s.events.offer (.txDropped k p) := rfl
@[simp] theorem State.countDropped_pending (s : State) (k : FrameKind) (p : Option PointId) :
    (s.countDropped k p).pending = s.pending := rfl
@[simp] theorem State.countDropped_breaks (s : State) (k : FrameKind) (p : Option PointId) :
    (s.countDropped k p).breaks = s.breaks := rfl
@[simp] theorem State.countDropped_slotFirst (s : State) (k : FrameKind) (p : Option PointId) :
    (s.countDropped k p).slotFirst = s.slotFirst := rfl

/-! ### `State.appendPublish` -/

@[simp] theorem State.appendPublish_pins (s : State) (p : PointId) : (s.appendPublish p).pins = s.pins := rfl
@[simp] theorem State.appendPublish_straps (s : State) (p : PointId) : (s.appendPublish p).straps = s.straps := rfl
@[simp] theorem State.appendPublish_ctrl (s : State) (p : PointId) : (s.appendPublish p).ctrl = s.ctrl := rfl
@[simp] theorem State.appendPublish_points (s : State) (p : PointId) : (s.appendPublish p).points = s.points := rfl
@[simp] theorem State.appendPublish_heldCount (s : State) (p : PointId) :
    (s.appendPublish p).heldCount = s.heldCount := rfl
@[simp] theorem State.appendPublish_claimingCount (s : State) (p : PointId) :
    (s.appendPublish p).claimingCount = s.claimingCount := rfl
@[simp] theorem State.appendPublish_counters (s : State) (p : PointId) :
    (s.appendPublish p).counters = s.counters := rfl
@[simp] theorem State.appendPublish_tx (s : State) (p : PointId) : (s.appendPublish p).tx = s.tx.publishId p := rfl
@[simp] theorem State.appendPublish_line (s : State) (p : PointId) : (s.appendPublish p).line = s.line := rfl
@[simp] theorem State.appendPublish_rx (s : State) (p : PointId) : (s.appendPublish p).rx = s.rx := rfl
@[simp] theorem State.appendPublish_roster (s : State) (p : PointId) : (s.appendPublish p).roster = s.roster := rfl
@[simp] theorem State.appendPublish_host (s : State) (p : PointId) : (s.appendPublish p).host = s.host := rfl
@[simp] theorem State.appendPublish_events (s : State) (p : PointId) : (s.appendPublish p).events = s.events := rfl
@[simp] theorem State.appendPublish_pending (s : State) (p : PointId) : (s.appendPublish p).pending = s.pending := rfl
@[simp] theorem State.appendPublish_breaks (s : State) (p : PointId) : (s.appendPublish p).breaks = s.breaks := rfl
@[simp] theorem State.appendPublish_slotFirst (s : State) (p : PointId) :
    (s.appendPublish p).slotFirst = s.slotFirst := rfl

/-! ### `State.appendHeld` -/

@[simp] theorem State.appendHeld_pins (s : State) (p : PointId) : (s.appendHeld p).pins = s.pins := by
  unfold State.appendHeld; repeat' split
  all_goals rfl
@[simp] theorem State.appendHeld_straps (s : State) (p : PointId) : (s.appendHeld p).straps = s.straps := by
  unfold State.appendHeld; repeat' split
  all_goals rfl
@[simp] theorem State.appendHeld_ctrl (s : State) (p : PointId) : (s.appendHeld p).ctrl = s.ctrl := by
  unfold State.appendHeld; repeat' split
  all_goals rfl
@[simp] theorem State.appendHeld_points (s : State) (p : PointId) : (s.appendHeld p).points = s.points := by
  unfold State.appendHeld; repeat' split
  all_goals rfl
@[simp] theorem State.appendHeld_heldCount (s : State) (p : PointId) : (s.appendHeld p).heldCount = s.heldCount := by
  unfold State.appendHeld; repeat' split
  all_goals rfl
@[simp] theorem State.appendHeld_claimingCount (s : State) (p : PointId) :
    (s.appendHeld p).claimingCount = s.claimingCount := by
  unfold State.appendHeld; repeat' split
  all_goals rfl
@[simp] theorem State.appendHeld_counters (s : State) (p : PointId) : (s.appendHeld p).counters = s.counters := by
  unfold State.appendHeld; repeat' split
  all_goals rfl
@[simp] theorem State.appendHeld_line (s : State) (p : PointId) : (s.appendHeld p).line = s.line := by
  unfold State.appendHeld; repeat' split
  all_goals rfl
@[simp] theorem State.appendHeld_rx (s : State) (p : PointId) : (s.appendHeld p).rx = s.rx := by
  unfold State.appendHeld; repeat' split
  all_goals rfl
@[simp] theorem State.appendHeld_roster (s : State) (p : PointId) : (s.appendHeld p).roster = s.roster := by
  unfold State.appendHeld; repeat' split
  all_goals rfl
@[simp] theorem State.appendHeld_host (s : State) (p : PointId) : (s.appendHeld p).host = s.host := by
  unfold State.appendHeld; repeat' split
  all_goals rfl
@[simp] theorem State.appendHeld_events (s : State) (p : PointId) : (s.appendHeld p).events = s.events := by
  unfold State.appendHeld; repeat' split
  all_goals rfl
@[simp] theorem State.appendHeld_pending (s : State) (p : PointId) : (s.appendHeld p).pending = s.pending := by
  unfold State.appendHeld; repeat' split
  all_goals rfl
@[simp] theorem State.appendHeld_breaks (s : State) (p : PointId) : (s.appendHeld p).breaks = s.breaks := by
  unfold State.appendHeld; repeat' split
  all_goals rfl
@[simp] theorem State.appendHeld_slotFirst (s : State) (p : PointId) : (s.appendHeld p).slotFirst = s.slotFirst := by
  unfold State.appendHeld; repeat' split
  all_goals rfl

/-! ### `State.requestAssert` -/

@[simp] theorem State.requestAssert_pins (s : State) (p : PointId) : (s.requestAssert p).pins = s.pins := by
  unfold State.requestAssert; repeat' split
  all_goals rfl
@[simp] theorem State.requestAssert_straps (s : State) (p : PointId) : (s.requestAssert p).straps = s.straps := by
  unfold State.requestAssert; repeat' split
  all_goals rfl
@[simp] theorem State.requestAssert_ctrl (s : State) (p : PointId) : (s.requestAssert p).ctrl = s.ctrl := by
  unfold State.requestAssert; repeat' split
  all_goals rfl
@[simp] theorem State.requestAssert_points (s : State) (p : PointId) : (s.requestAssert p).points = s.points := by
  unfold State.requestAssert; repeat' split
  all_goals rfl
@[simp] theorem State.requestAssert_heldCount (s : State) (p : PointId) :
    (s.requestAssert p).heldCount = s.heldCount := by
  unfold State.requestAssert; repeat' split
  all_goals rfl
@[simp] theorem State.requestAssert_claimingCount (s : State) (p : PointId) :
    (s.requestAssert p).claimingCount = s.claimingCount := by
  unfold State.requestAssert; repeat' split
  all_goals rfl
@[simp] theorem State.requestAssert_line (s : State) (p : PointId) : (s.requestAssert p).line = s.line := by
  unfold State.requestAssert; repeat' split
  all_goals rfl
@[simp] theorem State.requestAssert_rx (s : State) (p : PointId) : (s.requestAssert p).rx = s.rx := by
  unfold State.requestAssert; repeat' split
  all_goals rfl
@[simp] theorem State.requestAssert_roster (s : State) (p : PointId) : (s.requestAssert p).roster = s.roster := by
  unfold State.requestAssert; repeat' split
  all_goals rfl
@[simp] theorem State.requestAssert_host (s : State) (p : PointId) : (s.requestAssert p).host = s.host := by
  unfold State.requestAssert; repeat' split
  all_goals rfl
@[simp] theorem State.requestAssert_pending (s : State) (p : PointId) : (s.requestAssert p).pending = s.pending := by
  unfold State.requestAssert; repeat' split
  all_goals rfl
@[simp] theorem State.requestAssert_breaks (s : State) (p : PointId) : (s.requestAssert p).breaks = s.breaks := by
  unfold State.requestAssert; repeat' split
  all_goals rfl
@[simp] theorem State.requestAssert_slotFirst (s : State) (p : PointId) :
    (s.requestAssert p).slotFirst = s.slotFirst := by
  unfold State.requestAssert; repeat' split
  all_goals rfl

/-! ### `State.withdrawClaim` -/

@[simp] theorem State.withdrawClaim_pins (s : State) (p : PointId) : (s.withdrawClaim p).pins = s.pins := rfl
@[simp] theorem State.withdrawClaim_straps (s : State) (p : PointId) : (s.withdrawClaim p).straps = s.straps := rfl
@[simp] theorem State.withdrawClaim_ctrl (s : State) (p : PointId) : (s.withdrawClaim p).ctrl = s.ctrl := rfl
@[simp] theorem State.withdrawClaim_points (s : State) (p : PointId) : (s.withdrawClaim p).points = s.points := rfl
@[simp] theorem State.withdrawClaim_heldCount (s : State) (p : PointId) :
    (s.withdrawClaim p).heldCount = s.heldCount := rfl
@[simp] theorem State.withdrawClaim_claimingCount (s : State) (p : PointId) :
    (s.withdrawClaim p).claimingCount = s.claimingCount - 1 := rfl
@[simp] theorem State.withdrawClaim_counters (s : State) (p : PointId) :
    (s.withdrawClaim p).counters = s.counters := rfl
@[simp] theorem State.withdrawClaim_line (s : State) (p : PointId) : (s.withdrawClaim p).line = s.line := rfl
@[simp] theorem State.withdrawClaim_rx (s : State) (p : PointId) : (s.withdrawClaim p).rx = s.rx := rfl
@[simp] theorem State.withdrawClaim_roster (s : State) (p : PointId) : (s.withdrawClaim p).roster = s.roster := rfl
@[simp] theorem State.withdrawClaim_host (s : State) (p : PointId) : (s.withdrawClaim p).host = s.host := rfl
@[simp] theorem State.withdrawClaim_events (s : State) (p : PointId) : (s.withdrawClaim p).events = s.events := rfl
@[simp] theorem State.withdrawClaim_pending (s : State) (p : PointId) : (s.withdrawClaim p).pending = s.pending := rfl
@[simp] theorem State.withdrawClaim_breaks (s : State) (p : PointId) : (s.withdrawClaim p).breaks = s.breaks := rfl
@[simp] theorem State.withdrawClaim_slotFirst (s : State) (p : PointId) :
    (s.withdrawClaim p).slotFirst = s.slotFirst := rfl

/-! ### `State.leaveHeld` -/

@[simp] theorem State.leaveHeld_pins (s : State) (p : PointId) : (s.leaveHeld p).pins = s.pins := rfl
@[simp] theorem State.leaveHeld_straps (s : State) (p : PointId) : (s.leaveHeld p).straps = s.straps := rfl
@[simp] theorem State.leaveHeld_ctrl (s : State) (p : PointId) : (s.leaveHeld p).ctrl = s.ctrl := rfl
@[simp] theorem State.leaveHeld_points (s : State) (p : PointId) : (s.leaveHeld p).points = s.points := rfl
@[simp] theorem State.leaveHeld_heldCount (s : State) (p : PointId) :
    (s.leaveHeld p).heldCount = s.heldCount - 1 := rfl
@[simp] theorem State.leaveHeld_claimingCount (s : State) (p : PointId) :
    (s.leaveHeld p).claimingCount = s.claimingCount := rfl
@[simp] theorem State.leaveHeld_counters (s : State) (p : PointId) : (s.leaveHeld p).counters = s.counters := rfl
@[simp] theorem State.leaveHeld_line (s : State) (p : PointId) : (s.leaveHeld p).line = s.line := rfl
@[simp] theorem State.leaveHeld_rx (s : State) (p : PointId) : (s.leaveHeld p).rx = s.rx := rfl
@[simp] theorem State.leaveHeld_roster (s : State) (p : PointId) : (s.leaveHeld p).roster = s.roster := rfl
@[simp] theorem State.leaveHeld_host (s : State) (p : PointId) : (s.leaveHeld p).host = s.host := rfl
@[simp] theorem State.leaveHeld_events (s : State) (p : PointId) : (s.leaveHeld p).events = s.events := rfl
@[simp] theorem State.leaveHeld_pending (s : State) (p : PointId) : (s.leaveHeld p).pending = s.pending := rfl
@[simp] theorem State.leaveHeld_breaks (s : State) (p : PointId) : (s.leaveHeld p).breaks = s.breaks := rfl
@[simp] theorem State.leaveHeld_slotFirst (s : State) (p : PointId) : (s.leaveHeld p).slotFirst = s.slotFirst := rfl

/-! ### `State.changeStation` -/

@[simp] theorem State.changeStation_pins (s : State) (st : StationState) (c : Cause) :
    (s.changeStation st c).pins = s.pins := rfl
@[simp] theorem State.changeStation_straps (s : State) (st : StationState) (c : Cause) :
    (s.changeStation st c).straps = s.straps := rfl
@[simp] theorem State.changeStation_ctrl (s : State) (st : StationState) (c : Cause) :
    (s.changeStation st c).ctrl = { s.ctrl with state := st, cause := some c } := rfl
@[simp] theorem State.changeStation_points (s : State) (st : StationState) (c : Cause) :
    (s.changeStation st c).points = s.points := rfl
@[simp] theorem State.changeStation_heldCount (s : State) (st : StationState) (c : Cause) :
    (s.changeStation st c).heldCount = s.heldCount := rfl
@[simp] theorem State.changeStation_claimingCount (s : State) (st : StationState) (c : Cause) :
    (s.changeStation st c).claimingCount = s.claimingCount := rfl
@[simp] theorem State.changeStation_counters (s : State) (st : StationState) (c : Cause) :
    (s.changeStation st c).counters = s.counters := rfl
@[simp] theorem State.changeStation_tx (s : State) (st : StationState) (c : Cause) :
    (s.changeStation st c).tx = s.tx := rfl
@[simp] theorem State.changeStation_line (s : State) (st : StationState) (c : Cause) :
    (s.changeStation st c).line = s.line := rfl
@[simp] theorem State.changeStation_rx (s : State) (st : StationState) (c : Cause) :
    (s.changeStation st c).rx = s.rx := rfl
@[simp] theorem State.changeStation_roster (s : State) (st : StationState) (c : Cause) :
    (s.changeStation st c).roster = s.roster := rfl
@[simp] theorem State.changeStation_host (s : State) (st : StationState) (c : Cause) :
    (s.changeStation st c).host = s.host := rfl
@[simp] theorem State.changeStation_events (s : State) (st : StationState) (c : Cause) :
    (s.changeStation st c).events = s.events.offer (.stationState st (some c)) := rfl
@[simp] theorem State.changeStation_pending (s : State) (st : StationState) (c : Cause) :
    (s.changeStation st c).pending = s.pending := rfl
@[simp] theorem State.changeStation_breaks (s : State) (st : StationState) (c : Cause) :
    (s.changeStation st c).breaks = s.breaks := rfl
@[simp] theorem State.changeStation_slotFirst (s : State) (st : StationState) (c : Cause) :
    (s.changeStation st c).slotFirst = s.slotFirst := rfl

/-! ### `State.flush` -/

@[simp] theorem State.flush_pins (s : State) : s.flush.pins = s.pins := rfl
@[simp] theorem State.flush_straps (s : State) : s.flush.straps = s.straps := rfl
@[simp] theorem State.flush_ctrl (s : State) : s.flush.ctrl = s.ctrl := rfl
@[simp] theorem State.flush_points (s : State) : s.flush.points = s.points := rfl
@[simp] theorem State.flush_heldCount (s : State) : s.flush.heldCount = s.heldCount := rfl
@[simp] theorem State.flush_claimingCount (s : State) : s.flush.claimingCount = s.claimingCount := rfl
@[simp] theorem State.flush_counters (s : State) : s.flush.counters = s.counters := rfl
@[simp] theorem State.flush_tx (s : State) : s.flush.tx = s.tx := rfl
@[simp] theorem State.flush_line (s : State) : s.flush.line = s.line := rfl
@[simp] theorem State.flush_rx (s : State) : s.flush.rx = {} := rfl
@[simp] theorem State.flush_roster (s : State) : s.flush.roster = s.roster := rfl
@[simp] theorem State.flush_host (s : State) : s.flush.host = s.host := rfl
@[simp] theorem State.flush_events (s : State) : s.flush.events = s.events := rfl
@[simp] theorem State.flush_pending (s : State) : s.flush.pending = s.pending := rfl
@[simp] theorem State.flush_breaks (s : State) : s.flush.breaks = s.breaks := rfl
@[simp] theorem State.flush_slotFirst (s : State) : s.flush.slotFirst = s.slotFirst := rfl

/-! ### `State.itemsLeft` -/

@[simp] theorem State.itemsLeft_pins (s : State) (a : Applying) (rest : List FrameItem) :
    (s.itemsLeft a rest).pins = s.pins := rfl
@[simp] theorem State.itemsLeft_straps (s : State) (a : Applying) (rest : List FrameItem) :
    (s.itemsLeft a rest).straps = s.straps := rfl
@[simp] theorem State.itemsLeft_ctrl (s : State) (a : Applying) (rest : List FrameItem) :
    (s.itemsLeft a rest).ctrl = s.ctrl := rfl
@[simp] theorem State.itemsLeft_points (s : State) (a : Applying) (rest : List FrameItem) :
    (s.itemsLeft a rest).points = s.points := rfl
@[simp] theorem State.itemsLeft_heldCount (s : State) (a : Applying) (rest : List FrameItem) :
    (s.itemsLeft a rest).heldCount = s.heldCount := rfl
@[simp] theorem State.itemsLeft_claimingCount (s : State) (a : Applying) (rest : List FrameItem) :
    (s.itemsLeft a rest).claimingCount = s.claimingCount := rfl
@[simp] theorem State.itemsLeft_counters (s : State) (a : Applying) (rest : List FrameItem) :
    (s.itemsLeft a rest).counters = s.counters := rfl
@[simp] theorem State.itemsLeft_tx (s : State) (a : Applying) (rest : List FrameItem) :
    (s.itemsLeft a rest).tx = s.tx := rfl
@[simp] theorem State.itemsLeft_line (s : State) (a : Applying) (rest : List FrameItem) :
    (s.itemsLeft a rest).line = s.line := rfl
@[simp] theorem State.itemsLeft_rx (s : State) (a : Applying) (rest : List FrameItem) :
    (s.itemsLeft a rest).rx = { s.rx with applying := if rest = [] then none else some { a with items := rest } } := rfl
@[simp] theorem State.itemsLeft_roster (s : State) (a : Applying) (rest : List FrameItem) :
    (s.itemsLeft a rest).roster = s.roster := rfl
@[simp] theorem State.itemsLeft_host (s : State) (a : Applying) (rest : List FrameItem) :
    (s.itemsLeft a rest).host = s.host := rfl
@[simp] theorem State.itemsLeft_events (s : State) (a : Applying) (rest : List FrameItem) :
    (s.itemsLeft a rest).events = s.events := rfl
@[simp] theorem State.itemsLeft_pending (s : State) (a : Applying) (rest : List FrameItem) :
    (s.itemsLeft a rest).pending = s.pending := rfl
@[simp] theorem State.itemsLeft_breaks (s : State) (a : Applying) (rest : List FrameItem) :
    (s.itemsLeft a rest).breaks = s.breaks := rfl
@[simp] theorem State.itemsLeft_slotFirst (s : State) (a : Applying) (rest : List FrameItem) :
    (s.itemsLeft a rest).slotFirst = s.slotFirst := rfl

/-! ### `State.itemTaken` -/

@[simp] theorem State.itemTaken_pins (s : State) (f : Frame) (rest : List FrameItem) :
    (s.itemTaken f rest).pins = s.pins := rfl
@[simp] theorem State.itemTaken_straps (s : State) (f : Frame) (rest : List FrameItem) :
    (s.itemTaken f rest).straps = s.straps := rfl
@[simp] theorem State.itemTaken_ctrl (s : State) (f : Frame) (rest : List FrameItem) :
    (s.itemTaken f rest).ctrl = s.ctrl := rfl
@[simp] theorem State.itemTaken_points (s : State) (f : Frame) (rest : List FrameItem) :
    (s.itemTaken f rest).points = s.points := rfl
@[simp] theorem State.itemTaken_heldCount (s : State) (f : Frame) (rest : List FrameItem) :
    (s.itemTaken f rest).heldCount = s.heldCount := rfl
@[simp] theorem State.itemTaken_claimingCount (s : State) (f : Frame) (rest : List FrameItem) :
    (s.itemTaken f rest).claimingCount = s.claimingCount := rfl
@[simp] theorem State.itemTaken_counters (s : State) (f : Frame) (rest : List FrameItem) :
    (s.itemTaken f rest).counters = s.counters := rfl
@[simp] theorem State.itemTaken_tx (s : State) (f : Frame) (rest : List FrameItem) :
    (s.itemTaken f rest).tx = s.tx := rfl
@[simp] theorem State.itemTaken_line (s : State) (f : Frame) (rest : List FrameItem) :
    (s.itemTaken f rest).line = s.line := rfl
@[simp] theorem State.itemTaken_rx (s : State) (f : Frame) (rest : List FrameItem) :
    (s.itemTaken f rest).rx = { s.rx with applying := if rest = [] then none else some { frame := f, items := rest } } := rfl
@[simp] theorem State.itemTaken_roster (s : State) (f : Frame) (rest : List FrameItem) :
    (s.itemTaken f rest).roster = s.roster := rfl
@[simp] theorem State.itemTaken_host (s : State) (f : Frame) (rest : List FrameItem) :
    (s.itemTaken f rest).host = s.host := rfl
@[simp] theorem State.itemTaken_events (s : State) (f : Frame) (rest : List FrameItem) :
    (s.itemTaken f rest).events = s.events := rfl
@[simp] theorem State.itemTaken_pending (s : State) (f : Frame) (rest : List FrameItem) :
    (s.itemTaken f rest).pending = s.pending := rfl
@[simp] theorem State.itemTaken_breaks (s : State) (f : Frame) (rest : List FrameItem) :
    (s.itemTaken f rest).breaks = s.breaks := rfl
@[simp] theorem State.itemTaken_slotFirst (s : State) (f : Frame) (rest : List FrameItem) :
    (s.itemTaken f rest).slotFirst = s.slotFirst := rfl

/-! ### `State.enterClashed` -/

@[simp] theorem State.enterClashed_pins (s : State) : s.enterClashed.pins = s.pins := rfl
@[simp] theorem State.enterClashed_straps (s : State) : s.enterClashed.straps = s.straps := rfl
@[simp] theorem State.enterClashed_ctrl (s : State) :
    s.enterClashed.ctrl = { s.ctrl with state := .clashed, cause := some .clash, listenTimer := none, presenceTimer := none, leaseTimer := none, freshStart := false } := rfl
@[simp] theorem State.enterClashed_points (s : State) : s.enterClashed.points = s.points := rfl
@[simp] theorem State.enterClashed_heldCount (s : State) : s.enterClashed.heldCount = s.heldCount := rfl
@[simp] theorem State.enterClashed_claimingCount (s : State) : s.enterClashed.claimingCount = s.claimingCount := rfl
@[simp] theorem State.enterClashed_counters (s : State) : s.enterClashed.counters = s.counters := rfl
@[simp] theorem State.enterClashed_tx (s : State) : s.enterClashed.tx = s.tx.cutOff := rfl
@[simp] theorem State.enterClashed_line (s : State) : s.enterClashed.line = s.line.cutOff := rfl
@[simp] theorem State.enterClashed_rx (s : State) : s.enterClashed.rx = {} := rfl
@[simp] theorem State.enterClashed_roster (s : State) : s.enterClashed.roster = s.roster := rfl
@[simp] theorem State.enterClashed_host (s : State) : s.enterClashed.host = s.host := rfl
@[simp] theorem State.enterClashed_events (s : State) :
    s.enterClashed.events = s.events.offer (.stationState .clashed (some .clash)) := rfl
@[simp] theorem State.enterClashed_pending (s : State) : s.enterClashed.pending = s.pending := rfl
@[simp] theorem State.enterClashed_breaks (s : State) : s.enterClashed.breaks = s.breaks := rfl
@[simp] theorem State.enterClashed_slotFirst (s : State) : s.enterClashed.slotFirst = s.slotFirst := rfl

/-! ### `State.closeFrame` -/

@[simp] theorem State.closeFrame_pins (s : State) (x : Addr) : (s.closeFrame x).pins = s.pins := rfl
@[simp] theorem State.closeFrame_straps (s : State) (x : Addr) : (s.closeFrame x).straps = s.straps := rfl
@[simp] theorem State.closeFrame_ctrl (s : State) (x : Addr) : (s.closeFrame x).ctrl = s.ctrl := rfl
@[simp] theorem State.closeFrame_points (s : State) (x : Addr) : (s.closeFrame x).points = s.points := rfl
@[simp] theorem State.closeFrame_heldCount (s : State) (x : Addr) : (s.closeFrame x).heldCount = s.heldCount := rfl
@[simp] theorem State.closeFrame_claimingCount (s : State) (x : Addr) :
    (s.closeFrame x).claimingCount = s.claimingCount := rfl
@[simp] theorem State.closeFrame_counters (s : State) (x : Addr) : (s.closeFrame x).counters = s.counters := rfl
@[simp] theorem State.closeFrame_tx (s : State) (x : Addr) : (s.closeFrame x).tx = s.tx := rfl
@[simp] theorem State.closeFrame_line (s : State) (x : Addr) :
    (s.closeFrame x).line = { state := .idle, octets := [], gap := none, lastSource := x, ladder := some {} } := rfl
@[simp] theorem State.closeFrame_rx (s : State) (x : Addr) : (s.closeFrame x).rx = s.rx := rfl
@[simp] theorem State.closeFrame_roster (s : State) (x : Addr) : (s.closeFrame x).roster = s.roster := rfl
@[simp] theorem State.closeFrame_host (s : State) (x : Addr) : (s.closeFrame x).host = s.host := rfl
@[simp] theorem State.closeFrame_events (s : State) (x : Addr) : (s.closeFrame x).events = s.events := rfl
@[simp] theorem State.closeFrame_pending (s : State) (x : Addr) : (s.closeFrame x).pending = s.pending := rfl
@[simp] theorem State.closeFrame_breaks (s : State) (x : Addr) : (s.closeFrame x).breaks = s.breaks := rfl
@[simp] theorem State.closeFrame_slotFirst (s : State) (x : Addr) : (s.closeFrame x).slotFirst = s.slotFirst := rfl

/-! ### `State.send` -/

@[simp] theorem State.send_pins (s : State) (b : BuiltFrame) (k : Nat) : (s.send b k).pins = s.pins := rfl
@[simp] theorem State.send_straps (s : State) (b : BuiltFrame) (k : Nat) : (s.send b k).straps = s.straps := rfl
@[simp] theorem State.send_ctrl (s : State) (b : BuiltFrame) (k : Nat) : (s.send b k).ctrl = s.ctrl := rfl
@[simp] theorem State.send_points (s : State) (b : BuiltFrame) (k : Nat) : (s.send b k).points = s.points := rfl
@[simp] theorem State.send_heldCount (s : State) (b : BuiltFrame) (k : Nat) :
    (s.send b k).heldCount = s.heldCount := rfl
@[simp] theorem State.send_claimingCount (s : State) (b : BuiltFrame) (k : Nat) :
    (s.send b k).claimingCount = s.claimingCount := rfl
@[simp] theorem State.send_counters (s : State) (b : BuiltFrame) (k : Nat) : (s.send b k).counters = s.counters := rfl
@[simp] theorem State.send_tx (s : State) (b : BuiltFrame) (k : Nat) :
    (s.send b k).tx = { s.tx with frame := some { b with place := .inFlight k, readBack := 0 } } := rfl
@[simp] theorem State.send_line (s : State) (b : BuiltFrame) (k : Nat) :
    (s.send b k).line = { s.line with state := .sending, gap := none, ladder := none } := rfl
@[simp] theorem State.send_rx (s : State) (b : BuiltFrame) (k : Nat) : (s.send b k).rx = s.rx := rfl
@[simp] theorem State.send_roster (s : State) (b : BuiltFrame) (k : Nat) : (s.send b k).roster = s.roster := rfl
@[simp] theorem State.send_host (s : State) (b : BuiltFrame) (k : Nat) : (s.send b k).host = s.host := rfl
@[simp] theorem State.send_events (s : State) (b : BuiltFrame) (k : Nat) : (s.send b k).events = s.events := rfl
@[simp] theorem State.send_pending (s : State) (b : BuiltFrame) (k : Nat) : (s.send b k).pending = s.pending := rfl
@[simp] theorem State.send_breaks (s : State) (b : BuiltFrame) (k : Nat) : (s.send b k).breaks = s.breaks := rfl
@[simp] theorem State.send_slotFirst (s : State) (b : BuiltFrame) (k : Nat) :
    (s.send b k).slotFirst = s.slotFirst := rfl

/-! ### Reading a record and an entry back -/

@[simp] theorem State.pt_setPt_same (s : State) (p : PointId) (r : PointRecord) : (s.setPt p r).pt p = r := by
  simp [State.pt]

theorem State.pt_setPt_other (s : State) {p q : PointId} (r : PointRecord) (h : q ≠ p) : (s.setPt p r).pt q = s.pt q := by
  have : p.val ≠ q.val := fun e => h (Fin.ext e.symm)
  simp [State.pt, this]

theorem State.pt_setPt (s : State) (p q : PointId) (r : PointRecord) :
    (s.setPt p r).pt q = if q = p then r else s.pt q := by
  by_cases h : q = p
  · subst h; simp
  · simp [h, State.pt_setPt_other]

@[simp] theorem State.peer_setPeer_same (s : State) (x : Addr) (e : PeerEntry) : (s.setPeer x e).peer x = e := by
  simp [State.peer]

theorem State.peer_setPeer (s : State) (x y : Addr) (e : PeerEntry) :
    (s.setPeer x e).peer y = if y = x then e else s.peer y := by
  by_cases h : y = x
  · subst h; simp
  · have : x.val ≠ y.val := fun e => h (Fin.ext e.symm)
    simp [State.peer, this, h]

/-- Every record of a state is determined by the table: states with one table read alike. -/
theorem State.pt_congr {s t : State} (h : s.points = t.points) (p : PointId) : s.pt p = t.pt p := by
  simp [State.pt, h]

theorem State.peer_congr {s t : State} (h : s.roster = t.roster) (x : Addr) : s.peer x = t.peer x := by
  simp [State.peer, h]

@[simp] theorem State.peer_setPt (s : State) (p : PointId) (r : PointRecord) (y : Addr) : (s.setPt p r).peer y = s.peer y := by
  simp [State.peer]
@[simp] theorem State.pt_setPeer (s : State) (x : Addr) (e : PeerEntry) (q : PointId) : (s.setPeer x e).pt q = s.pt q := by
  simp [State.pt]
@[simp] theorem State.pt_offer (s : State) (e : Event) (q : PointId) : (s.offer e).pt q = s.pt q := by
  simp [State.pt]
@[simp] theorem State.peer_offer (s : State) (e : Event) (y : Addr) : (s.offer e).peer y = s.peer y := by
  simp [State.peer]
@[simp] theorem State.pt_offerPoint (s : State) (p : PointId) (e : Event) (q : PointId) : (s.offerPoint p e).pt q = s.pt q := by
  simp [State.pt]
@[simp] theorem State.peer_offerPoint (s : State) (p : PointId) (e : Event) (y : Addr) : (s.offerPoint p e).peer y = s.peer y := by
  simp [State.peer]
@[simp] theorem State.pt_countOld (s : State) (q : PointId) : s.countOld.pt q = s.pt q := by
  simp [State.pt]
@[simp] theorem State.peer_countOld (s : State) (y : Addr) : s.countOld.peer y = s.peer y := by
  simp [State.peer]
@[simp] theorem State.pt_countRejected (s : State) (q : PointId) : s.countRejected.pt q = s.pt q := by
  simp [State.pt]
@[simp] theorem State.peer_countRejected (s : State) (y : Addr) : s.countRejected.peer y = s.peer y := by
  simp [State.peer]
@[simp] theorem State.pt_countFraming (s : State) (q : PointId) : s.countFraming.pt q = s.pt q := by
  simp [State.pt]
@[simp] theorem State.peer_countFraming (s : State) (y : Addr) : s.countFraming.peer y = s.peer y := by
  simp [State.peer]
@[simp] theorem State.pt_countDropped (s : State) (k : FrameKind) (p : Option PointId) (q : PointId) : (s.countDropped k p).pt q = s.pt q := by
  simp [State.pt]
@[simp] theorem State.peer_countDropped (s : State) (k : FrameKind) (p : Option PointId) (y : Addr) : (s.countDropped k p).peer y = s.peer y := by
  simp [State.peer]
@[simp] theorem State.pt_appendPublish (s : State) (p : PointId) (q : PointId) : (s.appendPublish p).pt q = s.pt q := by
  simp [State.pt]
@[simp] theorem State.peer_appendPublish (s : State) (p : PointId) (y : Addr) : (s.appendPublish p).peer y = s.peer y := by
  simp [State.peer]
@[simp] theorem State.pt_appendHeld (s : State) (p : PointId) (q : PointId) : (s.appendHeld p).pt q = s.pt q := by
  simp [State.pt]
@[simp] theorem State.peer_appendHeld (s : State) (p : PointId) (y : Addr) : (s.appendHeld p).peer y = s.peer y := by
  simp [State.peer]
@[simp] theorem State.pt_requestAssert (s : State) (p : PointId) (q : PointId) : (s.requestAssert p).pt q = s.pt q := by
  simp [State.pt]
@[simp] theorem State.peer_requestAssert (s : State) (p : PointId) (y : Addr) : (s.requestAssert p).peer y = s.peer y := by
  simp [State.peer]
@[simp] theorem State.pt_withdrawClaim (s : State) (p : PointId) (q : PointId) : (s.withdrawClaim p).pt q = s.pt q := by
  simp [State.pt]
@[simp] theorem State.peer_withdrawClaim (s : State) (p : PointId) (y : Addr) : (s.withdrawClaim p).peer y = s.peer y := by
  simp [State.peer]
@[simp] theorem State.pt_leaveHeld (s : State) (p : PointId) (q : PointId) : (s.leaveHeld p).pt q = s.pt q := by
  simp [State.pt]
@[simp] theorem State.peer_leaveHeld (s : State) (p : PointId) (y : Addr) : (s.leaveHeld p).peer y = s.peer y := by
  simp [State.peer]
@[simp] theorem State.pt_changeStation (s : State) (st : StationState) (c : Cause) (q : PointId) : (s.changeStation st c).pt q = s.pt q := by
  simp [State.pt]
@[simp] theorem State.peer_changeStation (s : State) (st : StationState) (c : Cause) (y : Addr) : (s.changeStation st c).peer y = s.peer y := by
  simp [State.peer]
@[simp] theorem State.pt_flush (s : State) (q : PointId) : s.flush.pt q = s.pt q := by
  simp [State.pt]
@[simp] theorem State.peer_flush (s : State) (y : Addr) : s.flush.peer y = s.peer y := by
  simp [State.peer]
@[simp] theorem State.pt_itemsLeft (s : State) (a : Applying) (rest : List FrameItem) (q : PointId) : (s.itemsLeft a rest).pt q = s.pt q := by
  simp [State.pt]
@[simp] theorem State.peer_itemsLeft (s : State) (a : Applying) (rest : List FrameItem) (y : Addr) : (s.itemsLeft a rest).peer y = s.peer y := by
  simp [State.peer]
@[simp] theorem State.pt_itemTaken (s : State) (f : Frame) (rest : List FrameItem) (q : PointId) : (s.itemTaken f rest).pt q = s.pt q := by
  simp [State.pt]
@[simp] theorem State.peer_itemTaken (s : State) (f : Frame) (rest : List FrameItem) (y : Addr) : (s.itemTaken f rest).peer y = s.peer y := by
  simp [State.peer]
@[simp] theorem State.pt_enterClashed (s : State) (q : PointId) : s.enterClashed.pt q = s.pt q := by
  simp [State.pt]
@[simp] theorem State.peer_enterClashed (s : State) (y : Addr) : s.enterClashed.peer y = s.peer y := by
  simp [State.peer]
@[simp] theorem State.pt_closeFrame (s : State) (x : Addr) (q : PointId) : (s.closeFrame x).pt q = s.pt q := by
  simp [State.pt]
@[simp] theorem State.peer_closeFrame (s : State) (x : Addr) (y : Addr) : (s.closeFrame x).peer y = s.peer y := by
  simp [State.peer]
@[simp] theorem State.pt_send (s : State) (b : BuiltFrame) (k : Nat) (q : PointId) : (s.send b k).pt q = s.pt q := by
  simp [State.pt]
@[simp] theorem State.peer_send (s : State) (b : BuiltFrame) (k : Nat) (y : Addr) : (s.send b k).peer y = s.peer y := by
  simp [State.peer]

end Sys2Proof.Machine
end

