-- ==== Sys2Proof/Laws/Ops.lean ====
section
/-! SUPPORT. One lemma per shared operation, saying once everything it can do. -/

namespace Sys2Proof.Machine

/-! ### The Host Port -/

theorem HostCommand.code_of_ofCode {o : Octet} {c : HostCommand} (h : HostCommand.ofCode o = some c) : c.code = o := by
  simpa using List.find?_some h

@[simp] theorem HostCommand.ofCode_code (c : HostCommand) : HostCommand.ofCode c.code = some c := by
  cases c <;> rfl

/-- A command in hand that passes checks 1 to 4 of R175 is taken by its own item. -/
theorem State.takeCommand_reaches {s : State} {c : HostCommand} {q : QueuedCommand} {rest : List QueuedCommand}
    (h : s.reaches c q rest) (item : List Octet → State → Answered) :
    s.takeCommand (some c) item =
      let a := item q.params { s with host := { s.host with queue := rest } }
      (a.state.recordCondition q a.status).deliver q a.status a.data := by
  obtain ⟨hq, hc, hp, ha, hs⟩ := h
  have hof : HostCommand.ofCode q.code = some c := by rw [hc]; exact HostCommand.ofCode_code c
  have hn : ¬ (s.host.condition.isSome = true ∧ ¬ (some c).any HostCommand.takenWhilePending = true) := by
    rcases hp with hp | hp <;> simp [hp]
  simp only [State.takeCommand, hq, hof, State.judge, if_true, hn, if_false, ha, hs]

/-- An OK or EMPTY answer creates no condition record. -/
theorem State.answer_ordinary (s : State) (q : QueuedCommand) {status : Status} (data : List Octet)
    (h : status.isException = false) :
    (s.recordCondition q status).deliver q status data = s.answered q s.host.queue status data := by
  cases hl : q.live <;> simp [State.recordCondition, h, State.deliver, hl, State.answered, answerOctets,
    Config.answerMarker]

/-- An exception answer, RESUME's BAD_STATE apart. -/
theorem State.answer_exception (s : State) (q : QueuedCommand) {status : Status} (h : status.isException = true)
    (hr : ¬ (HostCommand.ofCode q.code = some .resume ∧ status = .badState)) :
    (s.recordCondition q status).deliver q status [] = s.excepted q s.host.queue status := by
  have e : octetOf 0 = 0 := rfl
  obtain ⟨_, _, ctrl, _, _, _, _, _, _, _, _, ⟨_, _, _, c⟩, _, _⟩ := s
  cases hl : q.live <;> by_cases hd : ctrl.config.discipline = .strict <;> cases c <;>
    simp [State.recordCondition, h, State.deliver, hl, State.excepted, answerOctets, Config.answerMarker, hr, hd, e]

/-- A command that reaches its item and is answered OK or EMPTY. -/
theorem State.taken_ordinary {s : State} {c : HostCommand} {q : QueuedCommand} {rest : List QueuedCommand}
    (h : s.reaches c q rest) {item : List Octet → State → Answered} {u : State} {status : Status} {data : List Octet}
    (hi : item q.params { s with host := { s.host with queue := rest } } = { state := u, status := status, data := data })
    (ho : status.isException = false) (hu : u.host.queue = rest) :
    s.takeCommand (some c) item = u.answered q rest status data := by
  rw [State.takeCommand_reaches h, hi]
  show (u.recordCondition q status).deliver q status data = _
  rw [State.answer_ordinary u q data ho, hu]

/-- A command that reaches its item and is refused there changes nothing but the Host Port. -/
theorem State.taken_exception {s : State} {c : HostCommand} {q : QueuedCommand} {rest : List QueuedCommand}
    (h : s.reaches c q rest) (hc : c ≠ .resume) {item : List Octet → State → Answered} {status : Status}
    (hi : item q.params { s with host := { s.host with queue := rest } } =
      { state := { s with host := { s.host with queue := rest } }, status := status, data := [] })
    (he : status.isException = true) : s.takeCommand (some c) item = s.excepted q rest status := by
  rw [State.takeCommand_reaches h, hi]
  show (State.recordCondition { s with host := { s.host with queue := rest } } q status).deliver q status [] = _
  rw [State.answer_exception _ q he]
  · rfl
  · rw [h.2.1, HostCommand.ofCode_code]; simp [hc]

/-! ### GET STATION -/

/-- Each field of a report shows the state at the read of its own group, and what it showed before where the group is not
read now (R178). -/
theorem StationReading.through_report (a : StationReading) (s : State) (last : StationGroup) :
    let now (g : StationGroup) : Bool := decide (a.groups ≤ g.index ∧ g.index ≤ last.index)
    (a.through s last).report =
      { state := if now .station then s.station else a.report.state
        cause := if now .station then s.ctrl.cause else a.report.cause
        straps := if now .straps then s.straps else a.report.straps
        config := if now .configuration then s.ctrl.config else a.report.config
        locked := if now .configuration then s.ctrl.locked else a.report.locked
        held := if now .table then s.heldCount else a.report.held
        claiming := if now .table then s.claimingCount else a.report.claiming
        published := if now .transmit then s.tx.publish.length else a.report.published
        requests := if now .transmit then s.tx.control.length else a.report.requests
        events := if now .host then s.events.records.length else a.report.events
        lost := if now .host then s.events.lost else a.report.lost
        conditionPending := if now .host then s.host.condition.isSome else a.report.conditionPending
        counters := if now .counters then s.counters else a.report.counters } := by
  have step (c : Prop) [Decidable c] (r : StationReport) (g : StationGroup) :
      (if c then r.read s g else r) =
        { state := if c ∧ g = .station then s.station else r.state
          cause := if c ∧ g = .station then s.ctrl.cause else r.cause
          straps := if c ∧ g = .straps then s.straps else r.straps
          config := if c ∧ g = .configuration then s.ctrl.config else r.config
          locked := if c ∧ g = .configuration then s.ctrl.locked else r.locked
          held := if c ∧ g = .table then s.heldCount else r.held
          claiming := if c ∧ g = .table then s.claimingCount else r.claiming
          published := if c ∧ g = .transmit then s.tx.publish.length else r.published
          requests := if c ∧ g = .transmit then s.tx.control.length else r.requests
          events := if c ∧ g = .host then s.events.records.length else r.events
          lost := if c ∧ g = .host then s.events.lost else r.lost
          conditionPending := if c ∧ g = .host then s.host.condition.isSome else r.conditionPending
          counters := if c ∧ g = .counters then s.counters else r.counters } := by
    by_cases h : c <;> cases g <;> simp [h, StationReport.read]
  simp [StationReading.through, StationGroup.all, step]

theorem State.stationAsked_reaches {s : State} {q : QueuedCommand} {rest : List QueuedCommand}
    (h : s.reaches .getStation q rest) : s.stationAsked = true := by
  obtain ⟨hq, hc, _, ha, _⟩ := h
  have hof : HostCommand.ofCode q.code = some .getStation := by rw [hc]; exact HostCommand.ofCode_code _
  simp [State.stationAsked, hq, hof, ha]

/-- GET STATION in hand, answered: the answer is composed from what was read before and what is read now. -/
theorem State.getStation_answered {s : State} {q : QueuedCommand} {rest : List QueuedCommand}
    (h : s.reaches .getStation q rest) :
    s.takeCommand (some .getStation) getStationItem =
      State.answered { s with host := { s.host with reading := {} } } q rest .ok
        (s.host.reading.through s .counters).report.data := by
  rw [State.takeCommand_reaches h]
  exact State.answer_ordinary { s with host := { s.host with queue := rest, reading := {} } } q _ rfl

/-- GET STATION in hand without a break. -/
theorem State.getStation_whole {s : State} {q : QueuedCommand} {rest : List QueuedCommand}
    (h : s.reaches .getStation q rest) (hb : s.breaks = []) :
    s.getStation = State.answered { s with host := { s.host with reading := {} } } q rest .ok
      (s.host.reading.through s .counters).report.data := by
  have hg : s.getStation = s.takeCommand (some .getStation) getStationItem := by
    unfold State.getStation
    split <;> simp [hb]
  rw [hg, State.getStation_answered h]

/-- GET STATION in hand with a break before the counters: what has been read is kept, and nothing else changes. -/
theorem State.getStation_partial {s : State} {q : QueuedCommand} {rest : List QueuedCommand}
    (h : s.reaches .getStation q rest) {last : StationGroup} {more : List StationGroup}
    (hb : s.breaks = last :: more) (hl : last ≠ .counters) :
    s.getStation = { s with
      host := { s.host with reading := s.host.reading.through { s with breaks := more } last }, breaks := more } := by
  rw [State.getStation, if_pos (State.stationAsked_reaches h), hb]
  simp only [if_neg hl]

/-! ### Timers and slots -/

/-- A timer stands at its limit when it runs and shows at least that many milliseconds. -/
@[simp] theorem timerReached_iff (t : Option Nat) (limit : Nat) :
    timerReached t limit = true ↔ ∃ ms, t = some ms ∧ limit ≤ ms := by
  cases t <;> simp [timerReached]

/-- The beginning of a slot while a ladder runs: the ladder comes to the slot, and the station acts only where the round's
slots are offered (R109, R147). -/
theorem State.slotBegins_idle {s : State} {l : Ladder} (hi : s.line.state = .idle) (hl : s.line.ladder = some l)
    (slot : Nat) (offer : State → State) :
    let t := { s with line := { s.line with ladder := some (l.reach slot) } }
    s.slotBegins slot offer = if (l.reach slot).offers then offer t else t := by
  unfold State.slotBegins
  rw [hi, hl]

/-- While no ladder runs no slot begins (R147). -/
theorem State.slotBegins_stopped {s : State} (h : s.line.state ≠ .idle ∨ s.line.ladder = none) (slot : Nat)
    (offer : State → State) : s.slotBegins slot offer = s := by
  unfold State.slotBegins
  split
  · simp_all
  · rfl

/-- The urgent slot's choice leaves the state as it stands, or puts a frame in flight in slot 0; the station's own state and
the events are the same either way (R161). -/
theorem State.urgentChoice_cases (s : State) :
    s.urgentChoice = s ∨
    (s.urgentChoice.line.state = .sending ∧ s.urgentChoice.ctrl = s.ctrl ∧ s.urgentChoice.events = s.events ∧
      ∃ b, s.urgentChoice.tx.frame = some b ∧ b.place = .inFlight 0) := by
  unfold State.urgentChoice
  split
  · split
    · right; exact ⟨rfl, rfl, rfl, _, rfl, rfl⟩
    · left; rfl
  · split
    · rename_i r _
      right
      cases r <;>
        simp [State.sendRequest, State.sendClaim, State.sendAssert, State.sendPresence, State.sendNew, State.send,
          State.claimBuilt]
      split <;> simp
    · left; rfl

/-! ### A clash -/

/-- A frame that is not in flight is not cut off. -/
theorem Scheduler.cutOff_grounded {t : Scheduler} (h : t.flying = false) : t.cutOff = t := by
  obtain ⟨_, _, frame, _⟩ := t
  cases frame with
  | none => rfl
  | some b => cases hp : b.place <;> simp_all [Scheduler.flying, Scheduler.cutOff]

/-- A frame in flight is kept as built, cut off (R120, R153). -/
theorem Scheduler.cutOff_flying {t : Scheduler} {b : BuiltFrame} {slot : Nat} (hf : t.frame = some b)
    (hp : b.place = .inFlight slot) : t.cutOff = { t with frame := some { b with place := .cutOff } } := by
  simp [Scheduler.cutOff, hf, hp]

/-- No frame is in flight after the cut. -/
@[simp] theorem Scheduler.cutOff_flies (t : Scheduler) : t.cutOff.flying = false := by
  cases hf : t.frame with
  | none => simp [Scheduler.flying, Scheduler.cutOff, hf]
  | some b => cases hp : b.place <;> simp [Scheduler.flying, Scheduler.cutOff, hf, hp]

/-- What the cut does to the line. -/
theorem Line.cutOff_cases (l : Line) :
    (l.state = .sending ∧
      l.cutOff = { l with state := .discarding true, octets := [], gap := some 0, ladder := none }) ∨
    (l.state ≠ .sending ∧ l.cutOff = l) := by
  unfold Line.cutOff
  by_cases h : l.state = .sending <;> simp [h]

/-- What a clash does: nothing where frames are not taken; else the entry to CLASHED, of the state as it stands or of the
state that slot 0 leaves (R119, R120). -/
theorem State.clash_cases (s : State) :
    (s.takesFrames = false ∧ s.clash = s) ∨
    (s.takesFrames = true ∧
      ((s.slotFirst.head? ≠ some true ∧ s.clash = State.enterClashed { s with slotFirst := s.slotFirst.tail }) ∨
       (s.slotFirst.head? = some true ∧
        s.clash = (State.urgentSlot { s with slotFirst := s.slotFirst.tail }).enterClashed))) := by
  unfold State.clash
  by_cases h : s.takesFrames = true
  · right
    refine ⟨h, ?_⟩
    rw [if_pos h]
    match hl : s.slotFirst with
    | [] => left; exact ⟨by simp, by cases s; cases hl; rfl⟩
    | true :: rest => right; exact ⟨rfl, rfl⟩
    | false :: rest => left; exact ⟨by simp, rfl⟩
  · left
    exact ⟨by simpa using h, if_neg h⟩

/-- No frame ends while a character is under way (R130). -/
theorem State.frameEnds_busy {s : State} (h : s.line.gap = none) : s.frameEnds = s := by
  simp [State.frameEnds, Line.quiet, h]

/-! ### Events -/

/-- What an offer does to the queue (R207 to R209). -/
theorem EventQueue.offer_cases (q : EventQueue) (e : Event) :
    ((∃ w ∈ q.records, e.mergesInto w = true) ∧ q.offer e = { q with records := q.records.map (Event.merge e) }) ∨
    ((∀ w ∈ q.records, e.mergesInto w = false) ∧ q.records.length < Config.eventCapacity ∧
      q.offer e = { q with records := q.records ++ [e] }) ∨
    ((∀ w ∈ q.records, e.mergesInto w = false) ∧ Config.eventCapacity ≤ q.records.length ∧
      q.offer e = { q with lost := min (q.lost + 1) Config.countMax }) := by
  unfold EventQueue.offer
  by_cases h : q.records.any (Event.mergesInto e) = true
  · left; simp only [h, if_true, and_true]; simpa using h
  · have h' : ∀ w ∈ q.records, e.mergesInto w = false := by simpa using h
    right
    by_cases hl : q.records.length < Config.eventCapacity
    · left; simp [h, hl]; simpa using h'
    · right; simp [h, hl]; exact ⟨by simpa using h', by omega⟩

/-- A merge keeps the kind of every waiting record. -/
theorem Event.merge_isOverrun (e w : Event) : (e.merge w).isOverrun = w.isOverrun := by
  cases e <;> cases w <;> try rfl
  simp only [Event.merge]; split <;> rfl

theorem Event.merge_isChangeOf (e w : Event) (p : PointId) : (e.merge w).isChangeOf p = w.isChangeOf p := by
  cases e <;> cases w <;> try rfl
  simp only [Event.merge]
  split
  · rename_i h; subst h; rfl
  · rfl

/-! ### The lists of the Transmit Scheduler -/

theorem Scheduler.publishId_publish (t : Scheduler) (p : PointId) :
    (t.publishId p).publish = if p ∈ t.publish then t.publish else t.publish ++ [p] := by
  unfold Scheduler.publishId; split <;> rfl

@[simp] theorem Scheduler.publishId_control (t : Scheduler) (p : PointId) : (t.publishId p).control = t.control := by
  unfold Scheduler.publishId; split <;> rfl

@[simp] theorem Scheduler.publishId_frame (t : Scheduler) (p : PointId) : (t.publishId p).frame = t.frame := by
  unfold Scheduler.publishId; split <;> rfl

@[simp] theorem Scheduler.publishId_sequence (t : Scheduler) (p : PointId) :
    (t.publishId p).sequence = t.sequence := by
  unfold Scheduler.publishId; split <;> rfl

theorem Scheduler.mem_publishId (t : Scheduler) (p q : PointId) :
    q ∈ (t.publishId p).publish ↔ q ∈ t.publish ∨ q = p := by
  rw [Scheduler.publishId_publish]; split <;> simp_all

theorem Scheduler.nodup_publishId {t : Scheduler} (p : PointId) (h : t.publish.Nodup) :
    (t.publishId p).publish.Nodup := by
  rw [Scheduler.publishId_publish]
  split
  · exact h
  · rename_i hp
    exact List.nodup_append.mpr ⟨h, List.nodup_singleton p, by rintro a ha b hb rfl; simp_all⟩

theorem Scheduler.append_control (t : Scheduler) (r : Request) :
    (t.append r).control = if r ∈ t.control then t.control else t.control ++ [r] := by
  unfold Scheduler.append; split <;> rfl

@[simp] theorem Scheduler.append_publish (t : Scheduler) (r : Request) : (t.append r).publish = t.publish := by
  unfold Scheduler.append; split <;> rfl

@[simp] theorem Scheduler.append_frame (t : Scheduler) (r : Request) : (t.append r).frame = t.frame := by
  unfold Scheduler.append; split <;> rfl

@[simp] theorem Scheduler.append_sequence (t : Scheduler) (r : Request) : (t.append r).sequence = t.sequence := by
  unfold Scheduler.append; split <;> rfl

theorem Scheduler.nodup_append {t : Scheduler} (r : Request) (h : t.control.Nodup) : (t.append r).control.Nodup := by
  rw [Scheduler.append_control]
  split
  · exact h
  · exact List.nodup_append.mpr ⟨h, List.nodup_singleton r, by rintro a ha b hb rfl; simp_all⟩

@[simp] theorem Scheduler.remove_control (t : Scheduler) (r : Request) :
    (t.remove r).control = t.control.filter (· ≠ r) := rfl

@[simp] theorem Scheduler.remove_publish (t : Scheduler) (r : Request) : (t.remove r).publish = t.publish := rfl

@[simp] theorem Scheduler.remove_frame (t : Scheduler) (r : Request) : (t.remove r).frame = t.frame := rfl

@[simp] theorem Scheduler.remove_sequence (t : Scheduler) (r : Request) : (t.remove r).sequence = t.sequence := rfl

/-- What withdrawing the built frame's work does (R33, R45, R153). -/
theorem Scheduler.withdraw_cases (t : Scheduler) (named : Body → Bool) :
    t.withdraw named = t ∨
    (∃ b u, t.frame = some b ∧ named b.frame.body = true ∧ b.place = .retry u ∧
      t.withdraw named = { t with frame := none }) ∨
    (∃ b k, t.frame = some b ∧ named b.frame.body = true ∧ b.place = .inFlight k ∧
      t.withdraw named = { t with frame := some { b with withdrawn := true } }) := by
  unfold Scheduler.withdraw
  cases h : t.frame with
  | none => exact .inl rfl
  | some b =>
    by_cases hn : named b.frame.body = true
    · cases hp : b.place with
      | inFlight k => exact .inr (.inr ⟨b, k, rfl, hn, hp, by simp [hn, hp]⟩)
      | retry u => exact .inr (.inl ⟨b, u, rfl, hn, hp, by simp [hn, hp]⟩)
      | cutOff => left; simp [hn, hp]
    · left; simp [hn]

@[simp] theorem Scheduler.withdraw_control (t : Scheduler) (named : Body → Bool) :
    (t.withdraw named).control = t.control := by
  rcases t.withdraw_cases named with h | ⟨_, _, _, _, _, h⟩ | ⟨_, _, _, _, _, h⟩ <;> rw [h]

@[simp] theorem Scheduler.withdraw_publish (t : Scheduler) (named : Body → Bool) :
    (t.withdraw named).publish = t.publish := by
  rcases t.withdraw_cases named with h | ⟨_, _, _, _, _, h⟩ | ⟨_, _, _, _, _, h⟩ <;> rw [h]

@[simp] theorem Scheduler.withdraw_sequence (t : Scheduler) (named : Body → Bool) :
    (t.withdraw named).sequence = t.sequence := by
  rcases t.withdraw_cases named with h | ⟨_, _, _, _, _, h⟩ | ⟨_, _, _, _, _, h⟩ <;> rw [h]

theorem Scheduler.full_iff (t : Scheduler) : t.full = true ↔ 16 ≤ t.control.length := by
  unfold Scheduler.full; exact decide_eq_true_iff

/-- What a challenge puts on the control list (R44). -/
theorem State.requestAssert_cases (s : State) (p : PointId) :
    ((Request.assert p ∈ s.tx.control ∨ s.tx.assertBuilt p = true) ∧ s.requestAssert p = s) ∨
    (Request.assert p ∉ s.tx.control ∧ 16 ≤ s.tx.control.length ∧
      s.requestAssert p = s.countDropped .assert (some p)) ∨
    (Request.assert p ∉ s.tx.control ∧ s.tx.control.length < 16 ∧
      s.requestAssert p = { s with tx := { s.tx with control := s.tx.control ++ [.assert p] } }) := by
  unfold State.requestAssert
  by_cases h : Request.assert p ∈ s.tx.control ∨ s.tx.assertBuilt p = true
  · left; simp [h]
  · right
    have h' : Request.assert p ∉ s.tx.control := fun e => h (.inl e)
    by_cases hf : s.tx.full = true
    · left; exact ⟨h', by simpa only [Scheduler.full_iff, Nat.not_le] using hf, by simp only [h, hf, if_true, if_false]⟩
    · right
      refine ⟨h', by simpa only [Scheduler.full_iff, Nat.not_le] using hf, ?_⟩
      rw [if_neg h, if_neg hf, Scheduler.append, if_neg h']

/-- What a release puts on the control list (R48). -/
theorem State.requestRelease_cases (s : State) (p : PointId) :
    (Request.release p ∈ s.tx.control ∧ s.requestRelease p = (s, false)) ∨
    (Request.release p ∉ s.tx.control ∧ 16 ≤ s.tx.control.length ∧ s.requestRelease p = (s, true)) ∨
    (Request.release p ∉ s.tx.control ∧ s.tx.control.length < 16 ∧
      s.requestRelease p = ({ s with tx := { s.tx with control := s.tx.control ++ [.release p] } }, false)) := by
  unfold State.requestRelease
  by_cases h : Request.release p ∈ s.tx.control
  · left; simp [h]
  · right
    by_cases hf : s.tx.full = true
    · left; exact ⟨h, by simpa only [Scheduler.full_iff, Nat.not_le] using hf, by simp [h, hf]⟩
    · right
      exact ⟨h, by simpa only [Scheduler.full_iff, Nat.not_le] using hf, by simp [h, hf, Scheduler.append]⟩

/-! ### Items over the whole table -/

/-- An item over the whole table reaches every record once, when each visit changes its own record alone, by a function
of that record and of what no visit changes (R91). -/
theorem State.sweep_induction {f : PointId → State → State} {P : State → Prop} {s : State} (h0 : P s)
    (hstep : ∀ t p, P t → P (f p t)) : P (s.sweep f) := by
  unfold State.sweep
  generalize allPoints = l
  induction l generalizing s with
  | nil => exact h0
  | cons p l ih => exact ih (hstep s p h0)

end Sys2Proof.Machine
end

