-- ==== Sys2Proof/Tests/Slice0.lean ====
section
/-! SUPPORT. Tests: ill-formed frames refused, octets written out from the layouts of chapter 12, small steps whose expected
results come from the spec's own sequences and rules, and for every statement with hypotheses a witness that meets them. -/

-- Each test below is evaluated by the kernel; one at a time keeps the memory of a compile small.
set_option Elab.async false

namespace Sys2Proof.Tests

open Sys2Proof Sys2Proof.Machine

/-! ### Ill-formed frames (R5, R132, R135): one for each check of WellFormed -/

/-- A source of N. -/
theorem test_wf_source : Frame.wf .n8 { source := 8, sequence := 0, body := .farewell } = false := by decide
/-- A held count of 65. -/
theorem test_wf_held : Body.wf .n8 (.presence .active false 65 .n8 10) = false := by decide
/-- A period of 1 unit. -/
theorem test_wf_period_low : Body.wf .n8 (.presence .active false 0 .n8 1) = false := by decide
/-- A period of 201 units. -/
theorem test_wf_period_high : Body.wf .n8 (.presence .active false 0 .n8 201) = false := by decide
/-- A PUBLISH of no record. -/
theorem test_wf_no_record : Body.wf .n8 (.publish []) = false := by decide
/-- A PUBLISH of 5 records. -/
theorem test_wf_five_records :
    Body.wf .n8 (.publish (List.replicate 5 { point := 0, generation := 0, octets := [1] })) = false := by decide
/-- A value of no octets. -/
theorem test_wf_no_value : PublishRecord.wf { point := 0, generation := 0, octets := [] } = false := by decide
/-- A value of 9 octets. -/
theorem test_wf_long_value : PublishRecord.wf { point := 0, generation := 0, octets := List.replicate 9 1 } = false := by
  decide
/-- A RECALL to the address N. -/
theorem test_wf_destination : Body.wf .n8 (.recall 8 [1]) = false := by decide
/-- A RECALL of no id. -/
theorem test_wf_no_id : Body.wf .n8 (.recall 1 []) = false := by decide
/-- A RECALL of 9 ids. -/
theorem test_wf_nine_ids : Body.wf .n8 (.recall 1 (List.replicate 9 0)) = false := by decide

/-! ### Octets -/

/-- The check value of the CRC-16 with polynomial 0x1021 and initial value 0xFFFF over the digits 1 to 9 (R133; the value
is the well-known one of that code). -/
theorem test_crc_check_value :
    crcOf [0x31, 0x32, 0x33, 0x34, 0x35, 0x36, 0x37, 0x38, 0x39] = 0x29B1 := by decide +kernel
/-- A PUBLISH of one record of 2 octets: 13 octets, laid out as R216 counts them. -/
theorem test_publish_layout :
    (Frame.encode { source := 1, sequence := 20
                    body := .publish [{ point := 10, generation := 7, octets := [0xAA, 0xBB] }] }).take 11 =
      [0x52, 0x01, 0xFF, 20, 1, 10, 0x00, 0x07, 2, 0xAA, 0xBB] := by decide
/-- A fresh-start PRESENCE (R216). -/
theorem test_presence_layout :
    (Frame.encode { source := 4, sequence := 1, body := .presence .active true 0 .n8 10 }).take 9 =
      [0x51, 0x04, 0xFF, 1, 0x02, 0x01, 0, 8, 10] := by decide
/-- A RECALL carries its destination (R216). -/
theorem test_recall_layout :
    (Frame.encode { source := 6, sequence := 9, body := .recall 2 [30, 255] }).take 7 =
      [0x56, 0x06, 0x02, 9, 2, 30, 255] := by decide
/-- The other kinds (R216). -/
theorem test_short_layouts :
    (Frame.encode { source := 1, sequence := 2, body := .claim 30 }).take 5 = [0x53, 1, 0xFF, 2, 30] ∧
    (Frame.encode { source := 1, sequence := 2, body := .assert 30 1 }).take 6 = [0x54, 1, 0xFF, 2, 30, 1] ∧
    (Frame.encode { source := 1, sequence := 2, body := .release 30 }).take 5 = [0x55, 1, 0xFF, 2, 30] ∧
    (Frame.encode { source := 1, sequence := 2, body := .farewell }).take 4 = [0x57, 1, 0xFF, 2] := by decide
/-- Upper flag bits are ignored on receipt (R216). -/
theorem test_presence_upper_flags :
    readFrame .n8 [0x51, 0x04, 0xFF, 1, 0x02, 0xFE, 0, 8, 10, 0, 0] =
      some { source := 4, sequence := 1, body := .presence .active false 0 .n8 10 } := by decide
/-- Any other state octet, and any other kind code, is invalid (R216). -/
theorem test_invalid_content :
    readFrame .n8 [0x51, 0x04, 0xFF, 1, 0x04, 0, 0, 8, 10, 0, 0] = none ∧
    readFrame .n8 [0x58, 0x04, 0xFF, 1, 0, 0] = none := by decide
/-- The serial comparison at its edges (Conventions): 32767 ahead is newer, 32768 is not. -/
theorem test_serial_comparison :
    newerThan 32767 0 = true ∧ newerThan 32768 0 = false ∧ newerThan 2 65535 = true ∧ newerThan 5 5 = false := by decide
/-- The rank of station 4 after a frame of station 1 with N = 8 is 2 (section 11.1). -/
theorem test_rank : rankOf .n8 4 1 = 2 := by decide
/-- No word spells a command. -/
theorem test_no_table_word : decodeTableWord 8 0x51 = none := rfl

/-! ### Small states -/

/-- The state a command leaves, or the state itself where it answers none. -/
def after (c : Instr) (s : State) : State :=
  match exec c s with
  | .next t => t
  | .fault _ | .refused _ => s

/-- Station 4 of the worked sequences, released from reset and configured (N = 8, P = 100 ms, L = 10, strict). -/
def off : State := { State.reset with
  straps := { own := 4, rate := 0 }
  ctrl := { config := { n := .n8, pUnits := 10, lease := 10 }, locked := true } }

/-- The same station in another state, on an idle line. -/
def station (st : StationState) : State := { off with
  ctrl := { off.ctrl with state := st, cause := some .host }
  line := { state := .idle, lastSource := 7, ladder := some {} } }

/-- A command in hand. -/
def asking (s : State) (code : Octet) (params : List Octet) : State := { s with
  host := { s.host with
    port := .waiting, queue := [{ code := code, count := octetOf params.length, params := params, live := true }] } }

/-- The command that `asking` puts in hand. -/
def inHand (code : Octet) (params : List Octet) : QueuedCommand :=
  { code := code, count := octetOf params.length, params := params, live := true }

/-- A frame from station `x` whose next item is `item`. -/
def hearing (s : State) (x : Addr) (body : Body) (item : FrameItem) : State := { s with
  rx := { applying := some { frame := { source := x, sequence := 5, body := body }, items := [item] } } }

/-- The frame that `hearing` applies. -/
def heard (x : Addr) (body : Body) : Frame := { source := x, sequence := 5, body := body }

/-- A record held by station 4. -/
def heldRecord : PointRecord :=
  { state := .held, owner := some 4, length := some 1, value := some { octets := [9], generation := 65535 }
    refreshTimer := some 3 }
/-- A claim in a phase. -/
def claimRecord (phase : ClaimPhase) : PointRecord :=
  { state := .claiming, claimant := some 4, length := some 1, value := some { octets := [9], generation := 0 }
    phase := some phase }
/-- A mirror of station 6. -/
def mirrorRecord : PointRecord :=
  { state := .mirror, owner := some 6, length := some 1, value := some { octets := [9], generation := 3 }, age := some 7
    staleTimer := some 7, subscribed := true }
/-- A dispute between 1 and 6. -/
def disputedRecord : PointRecord :=
  { mirrorRecord with state := .disputed, owner := some 1, contender := some 6, contenderTimer := some 2 }
/-- A stale record of station 6 with a claimant. -/
def staleRecord (claimant : Option Addr) : PointRecord :=
  { mirrorRecord with state := .stale, claimant := claimant, staleTimer := none }

/-- The frame of station 4 on the line, in a slot. -/
def flying (body : Body) (attempts slot : Nat) : State :=
  let s := station .active
  { s with
    line := { s.line with state := .sending, ladder := none }
    tx := { s.tx with
      frame := some { frame := { source := 4, sequence := 1, body := body }, attempts := attempts
                      place := .inFlight slot } } }

/-- The frame of station 4 on the line, read back whole. -/
def readBack (body : Body) (slot : Nat) : State :=
  let s := flying body 0 slot
  { s with
    tx := { s.tx with frame := s.tx.frame.map fun b => { b with readBack := b.frame.encode.length } }
    line := { s.line with gap := some 0 } }

/-- A frame of these octets has been heard, and no further character is under way. -/
def heardOctets (octets : List Octet) : State :=
  { station .active with line := { state := .inFrame, octets := octets, gap := some 0 } }

/-- The same station has a claim to send when it hears a frame of its own address: whether slot 0 of the new ladder is
taken before the clash is as given. -/
def clashing (slotFirst : Bool) : State :=
  { (heardOctets (Frame.encode { source := 4, sequence := 91, body := .farewell })).setPt 30 (claimRecord .requested) with
    tx := { control := [.claim 30] }
    slotFirst := [slotFirst] }

/-- The retry frame of station 4. -/
def retrying (st : StationState) (body : Body) (urgent : Bool) : State :=
  let s := station st
  { s with tx := { s.tx with
      frame := some { frame := { source := 4, sequence := 1, body := body }, attempts := 1, place := .retry urgent } } }

/-! ### Commands, one step each -/

/-- Reset clears the part (R28). -/
theorem test_reset : (after .reset (station .active)).station = .offline := by decide
/-- The straps are sampled (R101). -/
theorem test_reset_release : (after (.resetRelease 31 3) State.reset).straps = { own := 31, rate := 3 } := by decide
/-- CSn falls with room in the queue: wait octets (R174). -/
theorem test_csn_fall : (after .csnFall off).pins.miso = some 0x00 := by decide
/-- CSn rises: MISO at high impedance (R170). -/
theorem test_csn_rise : (after .csnRise { off with pins := { csnHigh := false, miso := some 0 } }).pins.miso = none := by
  decide
/-- JOIN sets the last source to N - 1 (section 11.1: 7). -/
theorem test_join :
    (after .join (asking off 0x03 [])).station = .listening ∧ (after .join (asking off 0x03 [])).line.lastSource = 7 := by
  decide +kernel
/-- CONFIGURE of section 11.1 on a fresh part, with subscribe-all. -/
theorem test_configure :
    let s := asking { off with ctrl := {} } 0x02 [8, 10, 0, 0, 1]
    (after .configure s).n = .n8 ∧ ((after .configure s).pt 255).subscribed = true := by decide +kernel
/-- A GET STATION answer has marker, status, length 33 and the state first (R176, R217). -/
theorem test_get_station :
    (match (after .getStation (asking (station .active) 0x01 [])).host.port with
      | .answering octets => octets.take 6
      | _ => []) = [0xC3, 0x00, 33, 0x02, 0x01, 4] := by decide +kernel
/-- A yield taken between the table read and the transmit read: the answer still counts the point, and no longer the id
(R178). -/
theorem test_get_station_straddles :
    let read : StationReading := { groups := 4, report := { held := 1 } }
    let s := asking (station .active) 0x01 []
    (match (after .getStation { s with host := { s.host with reading := read } }).host.port with
      | .answering octets => (octets[12]?, octets[14]?)
      | _ => (none, none)) = (some 1, some 0) := by decide +kernel
/-- A break after the table read: the command stays in hand, four groups read (R178). -/
theorem test_get_station_break :
    let s := { asking (station .active) 0x01 [] with heldCount := 1, breaks := [.table] }
    (after .getStation s).host.reading.groups = 4 ∧ (after .getStation s).host.reading.report.held = 1 ∧
    (after .getStation s).host.queue = s.host.queue := by decide +kernel
/-- LEAVE in LISTENING goes OFFLINE at once (R115); in ACTIVE it leaves a FAREWELL to send (R116). -/
theorem test_leave :
    (after .leave (asking (station .listening) 0x04 [])).station = .offline ∧
    (after .leave (asking (station .active) 0x04 [])).tx.control = [.farewell] := by decide +kernel
/-- RESUME returns from DETACHED and appends held points (R201). -/
theorem test_resume :
    (after .resume (asking ((station .detached).setPt 30 heldRecord) 0x05 [])).tx.publish = [30] := by decide +kernel
/-- CLEAR CONDITION with none pending answers EMPTY (R182). -/
theorem test_clear_condition :
    (after .clearCondition (asking off 0x06 [])).host.port = .answering [0xC3, 0x01, 0] := by decide +kernel
/-- READ POINT of a VACANT record: 21 octets (R217). -/
theorem test_read_point :
    (after .readPoint (asking off 0x10 [255])).host.port =
      .answering ([0xC3, 0x00, 21, 255] ++ List.replicate 20 0) := by decide +kernel
/-- A write wraps the generation from 65535 to 0 (R56). -/
theorem test_write_point_wraps :
    (after .writePoint (asking ((station .active).setPt 30 heldRecord) 0x11 [30, 7])).host.port =
      .answering [0xC3, 0x00, 2, 0, 0] := by decide +kernel
/-- CLAIM POINT 30 with length 1 and value 5 (section 11.2). -/
theorem test_claim_point :
    (after .claimPoint (asking (station .active) 0x12 [30, 1, 5])).tx.control = [.claim 30] := by decide +kernel
/-- RELEASE POINT with a full control list: release not announced (R48). -/
theorem test_release_point_full :
    let s := { (station .active).setPt 30 heldRecord with
      heldCount := 1
      tx := { control := (List.finRange 16).map fun i => .claim (Fin.ofNat 256 i.val) } }
    (after .releasePoint (asking s 0x13 [30])).host.port = .answering [0xC3, 0x00, 1, 1] := by decide +kernel
/-- RECALL POINT of a VACANT point is refused, and under strict discipline leaves a record (R73, R192). -/
theorem test_recall_point :
    (after .recallPoint (asking (station .active) 0x14 [30])).host.condition =
      some { status := .badPoint, command := 0x14, subject := some 30 } := by decide +kernel
/-- SUBSCRIBE of 1 point from 255 (R186). -/
theorem test_subscribe :
    ((after .subscribe (asking off 0x15 [255, 0, 1])).pt 255).subscribed = true ∧
    ((after .subscribe (asking off 0x15 [255, 0, 1])).pt 254).subscribed = false := by decide +kernel
/-- UNSUBSCRIBE past point 255 answers BAD_POINT (R186). -/
theorem test_unsubscribe :
    (after .unsubscribe (asking off 0x16 [255, 0, 2])).host.port = .answering [0xC3, 0x83, 0] := by decide +kernel
/-- READ EVENT returns the oldest record (R210): STATION_STATE (LISTENING, HOST). -/
theorem test_read_event :
    (after .readEvent (asking { off with
      events := { records := [.stationState .listening (some .host)] } } 0x20 [])).host.port =
      .answering [0xC3, 0x00, 4, 0x20, 0x01, 0x01, 0x01] := by decide +kernel
/-- READ PEER of the own address answers BAD_ADDRESS (R188). -/
theorem test_read_peer : (after .readPeer (asking off 0x21 [4])).host.port = .answering [0xC3, 0x8B, 0] := by decide +kernel
/-- A command octet that names none (R175). -/
theorem test_unknown_command :
    (after .unknownCommand (asking off 0x7F [])).host.port = .answering [0xC3, 0x8A, 0] := by decide +kernel
/-- The last octet of GET STATION puts the command in the queue (R173). -/
theorem test_command_complete :
    (after (.commandComplete 0) { off with host := { port := .receiving { code := some 0x01 } } }).host.queue =
      [{ code := 0x01, count := 0, params := [], live := true }] := by decide +kernel
/-- The marker is presented first (R170). -/
theorem test_spi_octet :
    (after (.spiOctetClocked 0) { off with host := { port := .answering [0xC3, 0, 0] } }).pins.miso = some 0xC3 := by
  decide +kernel
/-- 2 ct of idle line after JOIN (R131). -/
theorem test_line_idle :
    (after .lineIdleAfterSeeking { off with line := { state := .seeking, gap := some 0 } }).line.ladder = some {} := by decide +kernel
/-- A start bit stops the ladder (R147). -/
theorem test_start_bit : (after .startBit (station .active)).line.ladder = none := by decide +kernel
/-- A stop bit that reads low (R129). -/
theorem test_character_stop_low :
    (after (.characterReceived 5 false) { station .active with line := { state := .inFrame } }).line.state =
      .discarding false := by decide +kernel
/-- A valid CLAIM of station 2 is taken at its end, and its source is the last source (R138, R146). While another character
is under way the frame has no end (R130). -/
theorem test_frame_end :
    let s := heardOctets (Frame.encode { source := 2, sequence := 91, body := .claim 30 })
    (after .frameEnd s).rx.fifo = [{ source := 2, sequence := 91, body := .claim 30 }] ∧
    (after .frameEnd s).line.lastSource = 2 ∧
    (after .frameEnd (after .startBit s)).line.state = .inFrame := by decide +kernel
/-- A frame of the own address is a clash (R119). In either order with slot 0 no frame runs on; with the slot first, the frame
begun is cut off and its number is used (R120, R155). -/
theorem test_frame_end_clash :
    ((after .frameEnd (clashing false)).station = .clashed ∧ (after .frameEnd (clashing false)).tx.frame = none ∧
      (after .frameEnd (clashing false)).tx.sequence = 0) ∧
    ((after .frameEnd (clashing true)).station = .clashed ∧
      (after .frameEnd (clashing true)).tx.frame.map (fun b => b.place) = some .cutOff ∧
      (after .frameEnd (clashing true)).tx.sequence = 1 ∧
      (after .frameEnd (clashing true)).line.state = .discarding true) := by decide +kernel
/-- The end of the own CLAIM starts the window (R32). -/
theorem test_own_frame_end :
    ((after .frameEndedWithoutCollision ((readBack (.claim 30) 0).setPt 30 (claimRecord .sending))).pt 30).phase =
      some .window := by decide +kernel
/-- A frame of which characters have still to be read back has no such end (R150). -/
theorem test_own_frame_not_read_back :
    after .frameEndedWithoutCollision (flying (.claim 30) 0 0) = flying (.claim 30) 0 0 := by decide +kernel
/-- Step 1 of section 11.2: a collision in the urgent slot leaves the retry frame with 1 attempt and the urgent mark. -/
theorem test_collision :
    (after .collision (flying (.claim 30) 0 0)).tx.frame.map (fun b => (b.attempts, b.place)) =
      some (1, .retry true) := by decide +kernel
/-- The urgent slot sends the CLAIM with sequence 1 above the last (R155, R161). -/
theorem test_urgent_slot :
    (after .urgentSlot { station .active with tx := { control := [.claim 30], sequence := 1 } }).tx.frame.map
      (fun b => (b.frame.sequence, b.frame.body)) = some (2, .claim 30) := by decide +kernel
/-- Section 11.1: with the marker set the ranked slot sends a PRESENCE with sequence 1, fresh start set, held 0, N 8, P 10. -/
theorem test_ranked_slot :
    let s := station .active
    (after .rankedSlot { s with ctrl := { s.ctrl with freshStart := true } }).tx.frame.map (fun b => b.frame) =
      some { source := 4, sequence := 1, body := .presence .active true 0 .n8 10 } := by decide +kernel
/-- A station that became ACTIVE in a running round is offered its slot in the next one (R109, R147): with rank 4 the slot
is 5, passed in the round that runs. -/
theorem test_ranked_slot_of_the_next_round :
    let s := station .active
    let at' (next : Nat) : State := { s with
      ctrl := { s.ctrl with freshStart := true }
      line := { s.line with ladder := some { round := 0, next := next, offeredFrom := 1 } } }
    (after .rankedSlot (at' 1)).line.ladder = some { round := 0, next := 6, offeredFrom := 1 } ∧
    (after .rankedSlot (at' 6)).line.state = .sending := by decide +kernel
/-- The Frame Processor hands over the roster item, then the CLAIM (R142). -/
theorem test_takes_frame :
    (after .frameProcessorTakesFrame { station .active with rx := { fifo := [heard 2 (.claim 30)] } }).rx.applying.map
      (fun a => a.items) = some [.roster, .claim 30] := by decide +kernel
/-- Section 11.1 at 12 ms: PRESENCE from 6 makes its entry PRESENT and posts PEER_JOINED. -/
theorem test_roster_item :
    let s := hearing (station .listening) 6 (.presence .active false 1 .n8 10) .roster
    ((after .rosterFrameItem s).peer 6).state = .present ∧
    (after .rosterFrameItem s).events.records = [.peerJoined 6] := by decide +kernel
/-- Section 11.1 at 14 ms: a first record of a VACANT subscribed point. -/
theorem test_publish_record :
    let s := hearing ((station .listening).setPt 10 { subscribed := true }) 1
      (.publish [{ point := 10, generation := 7, octets := [1, 2] }])
      (.record { point := 10, generation := 7, octets := [1, 2] })
    (after .publishRecord s).events.records = [.ownerChanged 10 none (some 1), .pointChanged 10 7] := by decide +kernel
/-- Step 2 of section 11.2: a CLAIM of the lower address 2 ends the claim with cause CONTENDED. -/
theorem test_claim_heard :
    let s := hearing ((station .active).setPt 30 (claimRecord .requested)) 2 (.claim 30) (.claim 30)
    (after .claimHeard s).events.records = [.claimLost 30 .contended (some 2)] ∧
    ((after .claimHeard s).pt 30).claimant = some 2 := by decide +kernel
/-- Section 11.3: an ASSERT ends the claim with cause ASSERTED; the mirror has no value. -/
theorem test_assert_heard :
    let s := hearing ((station .active).setPt 30 (claimRecord .window)) 2 (.assert 30 1) (.assert 30 1)
    (after .assertHeard s).events.records = [.claimLost 30 .asserted (some 2)] ∧
    ((after .assertHeard s).pt 30).value = none := by decide +kernel
/-- A RELEASE of the owner leaves the point VACANT (R50). -/
theorem test_release_heard :
    ((after .releaseHeard (hearing ((station .active).setPt 30 mirrorRecord) 6 (.release 30) (.release 30))).pt 30).state =
      .vacant := by decide +kernel
/-- A RECALL appends a HELD point (R76). -/
theorem test_recall_heard :
    (after .recallHeard (hearing ((station .active).setPt 30 heldRecord) 6 (.recall 4 [30, 31]) (.recall [30, 31]))).tx.publish
      = [30] := by decide +kernel
/-- A claim is won at generation 0 (R34). -/
theorem test_claim_window :
    (after (.claimWindowExpiry 30) ((station .active).setPt 30
      { claimRecord .window with claimWindow := some 100 })).events.records = [.claimWon 30] := by decide +kernel
/-- The refresh timer queues a refresh (R16). -/
theorem test_refresh : (after (.refreshTimerExpiry 30) ((station .active).setPt 30
    { heldRecord with refreshTimer := some 100 })).tx.publish = [30] := by decide +kernel
/-- The stale timer (R70). -/
theorem test_stale :
    (after (.staleTimerExpiry 30) ((station .active).setPt 30 { mirrorRecord with staleTimer := some 300 })).events.records = [.pointStale 30 6] := by
  decide +kernel
/-- The contender timer (R89). -/
theorem test_contender :
    ((after (.contenderTimerExpiry 30) ((station .active).setPt 30
      { disputedRecord with contenderTimer := some 300 })).pt 30).state = .mirror := by
  decide +kernel
/-- Section 11.1 at 300 ms: ACTIVE with cause LISTEN_DONE. -/
theorem test_listen_timer :
    let s := station .listening
    (after .listenTimerExpiry { s with ctrl := { s.ctrl with listenTimer := some 300 } }).events.records =
      [.stationState .active (some .listenDone)] := by decide +kernel
/-- A PRESENCE request every P (R113). -/
theorem test_presence_timer :
    let s := station .active
    (after .presenceTimerExpiry { s with ctrl := { s.ctrl with presenceTimer := some 100 } }).tx.control = [.presence] := by
  decide +kernel
/-- The lease at its limit (R198). -/
theorem test_lease :
    let s := station .active
    (after .leaseExpiry { s with ctrl := { s.ctrl with leaseTimer := some 500 } }).ctrl.cause = some .lease := by
  decide +kernel
/-- A completion taken first has restarted the lease: the station stays ACTIVE (R198). -/
theorem test_lease_restarted :
    let s := station .active
    (after .leaseExpiry { s with ctrl := { s.ctrl with leaseTimer := some 0 } }).station = .active := by decide +kernel
/-- 2P without a frame: SILENT, and the peer's points go STALE (R92, R125; section 11.4). -/
theorem test_silence_2P :
    let s := ((station .active).setPt 30 mirrorRecord).setPeer 6
      { state := .present, lastSeq := some 1, silence := some 200 }
    (after (.silenceTimer2P 6) s).events.records = [.peerSilent 6, .pointStale 30 6] := by decide +kernel
/-- 5P: GONE, and the points are VACANT (R94, R126; section 11.4). -/
theorem test_silence_5P :
    let s := ((station .active).setPt 30 (staleRecord none)).setPeer 6
      { state := .silent, lastSeq := some 1, silence := some 500 }
    (after (.silenceTimer5P 6) s).events.records = [.peerGone 6 .timeout, .ownerChanged 30 (some 6) none] := by
  decide +kernel

/-! ### Witnesses: states and operands that meet the hypotheses of the statements, clause by clause -/

/-- An item in turn. -/
theorem hearing_takes {s : State} {x : Addr} {body : Body} {item : FrameItem}
    (h : s.station = .listening ∨ s.station = .active ∨ s.station = .detached) :
    (hearing s x body item).taking (heard x body) item [] := ⟨rfl, h⟩

/-- The empty queue, in OFFLINE and in ACTIVE. -/
theorem witness_IdleStepIsAMillisecond :
    (off.pending = [] ∧ off.station = .offline) ∧ (station .active).pending = [] ∧
    (station .active).station ≠ .offline ∧ (station .active).station ≠ .clashed := by decide +kernel
/-- The reset state, released with the highest strap levels. -/
theorem witness_ResetStateHasTheInvariants :
    exec (.resetRelease 31 3) State.reset = .next { State.reset with straps := { own := 31, rate := 3 } } := rfl
/-- CSn high with 0, 1 and 2 commands waiting. -/
theorem witness_ChipSelectBeginsAndEndsTransactions :
    let one : QueuedCommand := { code := 0x01, count := 0, params := [], live := false }
    let waiting (n : Nat) : State := { off with host := { queue := List.replicate n one } }
    (∀ n ∈ [0, 1, 2], (waiting n).pins.csnHigh = true ∧ (waiting n).pins.inReset = false) ∧
    (waiting 1).host.queue.length < 2 ∧ 2 ≤ (waiting 2).host.queue.length := by decide +kernel
/-- The octets of READ POINT 255, and of a command without parameters. -/
theorem witness_OctetsFormOneCommand :
    let s : State := { off with host := { port := .receiving {} } }
    s.host.port = .receiving { code := none, count := none, kept := [], received := 0 } ∧
    ([255] : List Octet).length = (1 : Octet).toNat ∧ ([0x10, 1, 255] : List Octet) = [0x10, 1] ++ [255] ∧
    ([] : List Octet).length = (0 : Octet).toNat ∧ ([0x01, 0] : List Octet) = [0x01] ++ [0] := by decide +kernel
/-- An answer of which two octets are sent, an answer with none left, and the other states. -/
theorem witness_AnswerIsPresentedInOrder :
    let s (port : Port) : State := { off with host := { port := port } }
    (s (.answering [0xC3, 0, 0])).host.port = .answering ([0xC3, 0] ++ [0]) ∧
    ([7, 7] : List Octet).length = ([0xC3, 0] : List Octet).length ∧
    (s (.answering [])).host.port = .answering [] ∧ (s .finished).host.port = .finished ∧
    (s .ignoring).host.port = .ignoring ∧ (s .waiting).host.port = .waiting := by decide +kernel
/-- READ EVENT while a record is pending, in ACTIVE and in OFFLINE. -/
theorem witness_PendingConditionRefusesCommands :
    let c : Condition := { status := .badState, command := 0x03, subject := none }
    let pend (s : State) : State := { asking s 0x20 [] with host := { (asking s 0x20 []).host with condition := some c } }
    (pend (station .active)).host.queue = inHand 0x20 [] :: [] ∧
    (pend (station .active)).host.condition.isSome = true ∧ (pend (station .active)).station = .active ∧
    (pend off).host.condition.isSome = true ∧ (inHand 0x20 []).code ≠ 0x01 ∧ (inHand 0x20 []).code ≠ 0x05 ∧
    (inHand 0x20 []).code ≠ 0x06 := by decide +kernel
/-- An unknown octet, a CONFIGURE of 4 parameters, and a JOIN in ACTIVE. -/
theorem witness_PortChecksRefuseInOrder :
    (HostCommand.ofCode (inHand 0x7F []).code = none ∧ (asking off 0x7F []).host.condition = none) ∧
    (HostCommand.ofCode (inHand 0x02 [8, 10, 0, 0]).code = some .configure ∧
      HostCommand.configure.admitsCount (inHand 0x02 [8, 10, 0, 0]).count = false) ∧
    (HostCommand.ofCode (inHand 0x03 []).code = some .join ∧
      HostCommand.join.admitsCount (inHand 0x03 []).count = true ∧
      HostCommand.join.admittedIn (asking (station .active) 0x03 []).station = false) := by decide +kernel
/-- CLEAR CONDITION with a record pending and with none. -/
theorem witness_ConditionRecordIsCleared :
    let c : Condition := { status := .badState, command := 0x03, subject := none }
    let s := asking off 0x06 []
    let pend : State := { s with host := { s.host with condition := some c } }
    pend.reaches .clearCondition (inHand 0x06 []) [] ∧ pend.host.condition = some c ∧
    s.reaches .clearCondition (inHand 0x06 []) [] ∧ s.host.condition = none :=
  ⟨⟨rfl, rfl, .inr rfl, rfl, rfl⟩, rfl, ⟨rfl, rfl, .inl rfl, rfl, rfl⟩, rfl⟩
/-- The three reads: a GET STATION with a parameter, a peer at N - 1, and the addresses N and the own one. -/
theorem witness_ReadCommandsChangeNothing :
    (asking off 0x01 []).reaches .getStation (inHand 0x01 []) [] ∧
    ((asking off 0x01 [7]).host.queue = inHand 0x01 [7] :: [] ∧ (inHand 0x01 [7]).count ≠ 0) ∧
    (asking { off with breaks := [.host, .counters] } 0x01 []).reaches .getStation (inHand 0x01 []) [] ∧
    (asking off 0x10 [255]).reaches .readPoint (inHand 0x10 [255]) [] ∧
    (inHand 0x10 [255]).params = pointOctet 255 :: [] ∧
    (asking off 0x21 [7]).reaches .readPeer (inHand 0x21 [7]) [] ∧ (7 : Octet).toNat = (7 : Addr).val ∧
    (7 : Addr).val < (asking off 0x21 [7]).n.toNat ∧ (7 : Addr) ≠ (asking off 0x21 [7]).own ∧
    (asking off 0x21 [8]).n.toNat ≤ (8 : Octet).toNat ∧ (4 : Octet).toNat = (asking off 0x21 [4]).own.val :=
  ⟨⟨rfl, rfl, .inl rfl, rfl, rfl⟩, ⟨rfl, by decide⟩, ⟨rfl, rfl, .inl rfl, rfl, rfl⟩,
    ⟨rfl, rfl, .inl rfl, rfl, rfl⟩, rfl, ⟨rfl, rfl, .inl rfl, rfl, rfl⟩, rfl,
    by decide, by decide, by decide, rfl⟩
/-- CONFIGURE with P at both ends and beyond, with the lock set and clear, and in another state. -/
theorem witness_ConfigureSetsTheConfigurationOnce :
    let fresh : State := { off with ctrl := {} }
    (asking fresh 0x02 [32, 200, 0, 0, 1]).host.queue = [inHand 0x02 [32, 200, 0, 0, 1]] ∧
    (inHand 0x02 [32, 200, 0, 0, 1]).count = 5 ∧ (asking fresh 0x02 [32, 200, 0, 0, 1]).host.condition = none ∧
    fresh.station = .offline ∧ fresh.ctrl.locked = false ∧ (32 : Octet).toNat = SegmentSize.n32.toNat ∧
    (∀ p ∈ [(2 : Octet), 200], 2 ≤ p.toNat ∧ p.toNat ≤ 200) ∧
    (∀ p ∈ [(1 : Octet), 201], ¬ (2 ≤ p.toNat ∧ p.toNat ≤ 200)) ∧
    off.station = .offline ∧ off.ctrl.locked = true ∧ (station .active).station ≠ .offline := by decide +kernel
/-- The own address N - 1, and N. -/
theorem witness_JoinBeginsListening :
    let s (own : Addr) : State := { off with straps := { own := own, rate := 0 } }
    (asking (s 7) 0x03 []).reaches .join (inHand 0x03 []) [] ∧ (s 7).own.val < (s 7).n.toNat ∧
    (asking (s 8) 0x03 []).reaches .join (inHand 0x03 []) [] ∧ (s 8).n.toNat ≤ (s 8).own.val :=
  ⟨⟨rfl, rfl, .inl rfl, rfl, rfl⟩, by decide, ⟨rfl, rfl, .inl rfl, rfl, rfl⟩, by decide⟩
/-- LEAVE in LISTENING and in CLASHED. -/
theorem witness_LeaveEndsTheSession :
    (asking (station .listening) 0x04 []).reaches .leave (inHand 0x04 []) [] ∧
    (station .listening).station = .listening ∧
    (asking (station .clashed) 0x04 []).reaches .leave (inHand 0x04 []) [] ∧ (station .clashed).station = .clashed :=
  ⟨⟨rfl, rfl, .inl rfl, rfl, rfl⟩, rfl, ⟨rfl, rfl, .inl rfl, rfl, rfl⟩, rfl⟩
/-- LEAVE in ACTIVE and in DETACHED. -/
theorem witness_LeaveEntersLeaving :
    (asking (station .active) 0x04 []).reaches .leave (inHand 0x04 []) [] ∧ (station .active).station = .active ∧
    (asking (station .detached) 0x04 []).reaches .leave (inHand 0x04 []) [] ∧
    (station .detached).station = .detached :=
  ⟨⟨rfl, rfl, .inl rfl, rfl, rfl⟩, rfl, ⟨rfl, rfl, .inl rfl, rfl, rfl⟩, rfl⟩
/-- RESUME in DETACHED and in ACTIVE. -/
theorem witness_ResumeReturnsToActive :
    (asking (station .detached) 0x05 []).host.queue = [inHand 0x05 []] ∧
    (asking (station .detached) 0x05 []).station = .detached ∧
    (asking (station .active) 0x05 []).host.queue = [inHand 0x05 []] ∧
    (asking (station .active) 0x05 []).station ≠ .detached ∧ (inHand 0x05 []).code = 0x05 ∧
    (inHand 0x05 []).count = 0 :=
  ⟨rfl, rfl, rfl, by decide, rfl, rfl⟩
/-- WRITE POINT on a HELD point with its length and with another, and on a VACANT one. -/
theorem witness_WritePointPublishesAValue :
    let s := (station .active).setPt 255 heldRecord
    (asking s 0x11 [255, 7]).reaches .writePoint (inHand 0x11 [255, 7]) [] ∧
    (inHand 0x11 [255, 7]).params = pointOctet 255 :: [7] ∧ (s.pt 255).state = .held ∧
    (s.pt 255).length = some ([7] : List Octet).length ∧
    (s.pt 255).value = some { octets := [9], generation := 65535 } ∧
    (asking s 0x11 [255, 7, 8]).reaches .writePoint (inHand 0x11 [255, 7, 8]) [] ∧
    (s.pt 255).length ≠ some ([7, 8] : List Octet).length ∧ ((station .active).pt 255).state ≠ .held :=
  ⟨⟨rfl, rfl, .inl rfl, rfl, rfl⟩, rfl, by decide +kernel, by decide +kernel, by decide +kernel, ⟨rfl, rfl, .inl rfl, rfl, rfl⟩,
    by decide +kernel, by decide +kernel⟩
/-- CLAIM POINT at the edges of the length, the limits and the list. -/
theorem witness_ClaimPointOpensAClaim :
    let s := station .active
    let list (n : Nat) : State := { s with
      heldCount := 60
      claimingCount := 3
      tx := { control := List.replicate n .presence } }
    (∀ params ∈ ([[30, 1, 5], [30, 8, 1, 2, 3, 4, 5, 6, 7, 8]] : List (List Octet)),
      (inHand 0x12 params).params.head? = some (pointOctet 30) ∧
        HostCommand.claimPoint.admitsCount (inHand 0x12 params).count = true) ∧
    (asking (list 15) 0x12 [30, 1, 5]).reaches .claimPoint (inHand 0x12 [30, 1, 5]) [] ∧
    ((list 15).pt 30).state = .vacant ∧ (list 15).claimingCount < 4 ∧
    (list 15).heldCount + (list 15).claimingCount < 64 ∧ (list 15).tx.control.length < 16 ∧
    Request.claim 30 ∉ (list 15).tx.control ∧
    ¬ (list 16).tx.control.length < 16 ∧ Request.release 30 ∉ (list 16).tx.control ∧
    ¬ (1 ≤ (0 : Octet).toNat ∧ (0 : Octet).toNat ≤ 8) ∧ ¬ (1 ≤ (9 : Octet).toNat ∧ (9 : Octet).toNat ≤ 8) ∧
    ¬ ({ s with claimingCount := 4 } : State).claimingCount < 4 ∧
    ¬ ({ s with heldCount := 61, claimingCount := 3 } : State).heldCount + 3 < 64 ∧
    ((s.setPt 30 mirrorRecord).pt 30).state = .mirror :=
  ⟨by decide +kernel, ⟨rfl, rfl, .inl rfl, rfl, rfl⟩, by decide +kernel, by decide +kernel, by decide +kernel,
    by decide +kernel, by decide +kernel, by decide +kernel, by decide +kernel, by decide, by decide, by decide, by decide,
    by decide +kernel⟩
/-- RELEASE POINT of a HELD point, of claims in each phase and of a mirror, with 15 and 16 requests waiting. -/
theorem witness_ReleasePointGivesUpAPoint :
    let s (r : PointRecord) := (station .active).setPt 30 r
    let list (n : Nat) : State := { s heldRecord with tx := { control := List.replicate n .presence } }
    (asking (list 15) 0x13 [30]).reaches .releasePoint (inHand 0x13 [30]) [] ∧
    (inHand 0x13 [30]).params = pointOctet 30 :: [] ∧ ((list 15).pt 30).state = .held ∧
    ((list 15).leaveHeld 30).tx.control.length < 16 ∧ Request.release 30 ∉ ((list 15).leaveHeld 30).tx.control ∧
    16 ≤ ((list 16).leaveHeld 30).tx.control.length ∧
    ((s (claimRecord .requested)).pt 30).phase = some .requested ∧
    ((s (claimRecord .window)).pt 30).phase ≠ some .requested ∧ ((s (claimRecord .window)).pt 30).state = .claiming ∧
    ((s mirrorRecord).pt 30).state ≠ .held ∧ ((s mirrorRecord).pt 30).state ≠ .claiming :=
  ⟨⟨rfl, rfl, .inl rfl, rfl, rfl⟩, rfl, by decide +kernel, by decide +kernel, by decide +kernel, by decide +kernel,
    by decide +kernel, by decide +kernel, by decide +kernel, by decide +kernel, by decide +kernel⟩
/-- RECALL POINT: a request that names the point, one with 7 ids, one with 8, and 15 or 16 requests waiting. -/
theorem witness_RecallPointMergesRequests :
    let s := (station .active).setPt 30 mirrorRecord
    let with' (l : List Request) : State := { s with tx := { control := l } }
    let room (r : Request) := ∃ ids, r = .recall 6 ids ∧ ids.length < 8
    (asking s 0x14 [30]).reaches .recallPoint (inHand 0x14 [30]) [] ∧
    (inHand 0x14 [30]).params = pointOctet 30 :: [] ∧ (s.pt 30).state = .mirror ∧ (s.pt 30).owner = some 6 ∧
    (∃ ids, Request.recall 6 ids ∈ (with' [.recall 6 [30]]).tx.control ∧ (30 : PointId) ∈ ids) ∧
    (with' [.recall 6 (List.replicate 7 1)]).tx.control = [] ++ Request.recall 6 (List.replicate 7 1) :: [] ∧
    (List.replicate 7 (1 : PointId)).length < 8 ∧
    (∀ r ∈ (with' [.recall 6 (List.replicate 8 1)]).tx.control, ¬ room r) ∧
    (with' (List.replicate 15 .presence)).tx.control.length < 16 ∧
    16 ≤ (with' (List.replicate 16 .presence)).tx.control.length ∧ ((station .active).pt 30).state = .vacant :=
  ⟨⟨rfl, rfl, .inl rfl, rfl, rfl⟩, rfl, by decide +kernel, by decide +kernel, ⟨[30], by decide +kernel, by decide⟩, rfl,
    by decide, by
      intro r hr
      simp only [List.mem_singleton] at hr
      subst hr
      rintro ⟨ids, h, hl⟩
      cases h
      simp at hl, by decide +kernel, by decide +kernel, by decide +kernel⟩
/-- A range that ends with point 255, one past it, and an empty one. -/
theorem witness_SubscriptionSetsARange :
    (asking off 0x15 [255, 0, 1]).reaches .subscribe (inHand 0x15 [255, 0, 1]) [] ∧
    (asking off 0x16 [255, 0, 1]).reaches .unsubscribe (inHand 0x16 [255, 0, 1]) [] ∧
    (inHand 0x15 [255, 0, 1]).params = [255, 0, 1] ∧ (255 : Octet).toNat + (256 * 0 + 1) ≤ 256 ∧
    256 < (255 : Octet).toNat + (256 * 0 + 2) ∧ (255 : Octet).toNat + (256 * 0 + 0) ≤ 256 :=
  ⟨⟨rfl, rfl, .inl rfl, rfl, rfl⟩, ⟨rfl, rfl, .inl rfl, rfl, rfl⟩, rfl, by decide, by decide, by decide⟩
/-- READ EVENT with an empty queue, and with a record and no loss or a loss noted. -/
theorem witness_ReadEventTakesTheOldest :
    (asking off 0x20 []).reaches .readEvent (inHand 0x20 []) [] ∧ off.events.records = [] ∧ off.events.lost = 0 ∧
    (asking { off with events := { records := [.claimWon 3], lost := 1 } } 0x20 []).reaches .readEvent (inHand 0x20 [])
      [] ∧ (1 : Nat) ≠ 0 :=
  ⟨⟨rfl, rfl, .inl rfl, rfl, rfl⟩, rfl, rfl, ⟨rfl, rfl, .inl rfl, rfl, rfl⟩, by decide⟩

/-- A frame of 55 octets on an idle line, and the other states of the line. -/
theorem witness_CharactersFormAFrame :
    (station .active).line.state = .idle ∧ List.replicate 55 (7 : Octet) ≠ [] ∧
    (List.replicate 55 (7 : Octet)).length ≤ 55 ∧ (List.replicate 55 (7 : Octet)).length = 55 ∧
    (let s : State := { off with line := { state := .seeking, gap := some 0 } }
     s.line.state = .seeking ∧ s.line.gap.isSome = true) ∧
    (station .active).line.gap = none ∧ off.line.state = .off := by decide +kernel
/-- Ends with 5, 6 and 56 octets, a bad CRC, content that does not fit, and frames of the own and of another address, with
slot 0 before the clash and after it, in which a frame begins and in which none does. -/
theorem witness_FrameEndIsJudged :
    let f (x : Addr) : Frame := { source := x, sequence := 1, body := .farewell }
    let s := heardOctets
    let idle : State := { clashing true with tx := {} }
    let left (u : State) : State := after .urgentSlot { u.closeFrame u.own with slotFirst := u.slotFirst.tail }
    let full : State := { s (f 2).encode with rx := { fifo := List.replicate 4 (f 1) } }
    (s []).line.gap.isSome = true ∧ (clashing true).line.gap.isSome = true ∧
    ((clashing true).slotFirst.head? = some true ∧ (clashing false).slotFirst.head? ≠ some true) ∧
    (readFrame .n8 (clashing true).line.octets).map Frame.source = some off.own ∧
    crcMatches (clashing true).line.octets = true ∧
    (left (clashing true)).line.state = .sending ∧ (left idle).line.state ≠ .sending ∧
    (s (List.replicate 5 0)).line.octets.length < 6 ∧ 55 < (s (List.replicate 56 0)).line.octets.length ∧
    6 ≤ (s (List.replicate 6 0)).line.octets.length ∧ crcMatches (s (List.replicate 6 0)).line.octets = false ∧
    (crcMatches (f 9).encode = true ∧ readFrame .n8 (f 9).encode = none) ∧
    (crcMatches (f 4).encode = true ∧ readFrame .n8 (f 4).encode = some (f 4) ∧ (f 4).source = off.own ∧
      (s (f 4).encode).tx.flying = false) ∧
    (readFrame .n8 (f 2).encode = some (f 2) ∧ (f 2).source ≠ off.own ∧
      (s (f 2).encode).referenceSequence 2 ≠ some 1 ∧ (s (f 2).encode).rx.fifo.length < 4 ∧
      4 ≤ full.rx.fifo.length ∧ full.referenceSequence 2 ≠ some 1) ∧
    ({ s (f 2).encode with rx := { fifo := [f 2] } } : State).referenceSequence 2 = some 1 := by decide +kernel
/-- A source with frames in the FIFO, one with a frame being applied, one known to the roster, and one that is not. -/
theorem witness_DuplicateReferenceIsTheNewestFrame :
    let f (x : Addr) : Frame := { source := x, sequence := 1, body := .farewell }
    let s : State := { (station .active).setPeer 6 { state := .silent, lastSeq := some 9, silence := some 4 } with
      rx := { fifo := [f 1], applying := some { frame := f 2, items := [.roster] } } }
    s.rx.fifo = [] ++ f 1 :: [] ∧ (f 1).source = 1 ∧
    ((∀ g ∈ s.rx.fifo, g.source ≠ 2) ∧ s.rx.applying = some { frame := f 2, items := [.roster] }) ∧
    ((∀ g ∈ s.rx.fifo, g.source ≠ 6) ∧ (f 2).source ≠ 6 ∧ (s.peer 6).state = .silent) ∧
    (s.peer 7).state = .absent := by decide +kernel
/-- Frames on the line of every kind, read back whole and not, with their points in the states that the clauses name. -/
theorem witness_OwnFrameEnds :
    let whole (s : State) := s.tx.frame.map fun b => (b.place, decide (b.frame.encode.length ≤ b.readBack))
    (readBack (.claim 30) 0).line.state = .sending ∧ (readBack (.claim 30) 0).line.gap.isSome = true ∧
    (flying (.claim 30) 0 0).line.gap = none ∧ whole (readBack (.claim 30) 0) = some (.inFlight 0, true) ∧
    whole (flying (.claim 30) 0 0) = some (.inFlight 0, false) ∧ (readBack (.claim 30) 0).station = .active ∧
    ((((readBack (.claim 30) 0).setPt 30 (claimRecord .sending)).pt 30).phase = some .sending) ∧
    ((((readBack (.claim 30) 0).setPt 30 (claimRecord .requested)).pt 30).phase ≠ some .sending) ∧
    (((readBack (.publish [{ point := 30, generation := 1, octets := [1] }]) 0).setPt 30 heldRecord).pt 30).state = .held ∧
    ((readBack .farewell 0).tx.frame.map fun b => b.frame.body) = some .farewell := by decide +kernel
/-- A frame on the line whose first octet is due, and one read back whole. -/
theorem witness_OwnCharactersAreComparedWithTheFrame :
    let b : BuiltFrame := { frame := { source := 4, sequence := 1, body := .farewell }, place := .inFlight 3 }
    (flying .farewell 0 3).tx.frame = some b ∧ b.frame.encode[b.readBack]? = some 0x57 ∧
    b.frame.encode.length ≤ ({ b with readBack := 6 } : BuiltFrame).readBack := by decide +kernel
/-- The seventh attempt, the eighth, and a withdrawn frame. -/
theorem witness_CollisionAbortsTheFrame :
    let body (k : Nat) := (flying (.claim 30) k 0).tx.frame.map fun b =>
      (b.attempts, b.withdrawn, decide (b.readBack < b.frame.encode.length))
    (flying (.claim 30) 6 0).line.state = .sending ∧ body 6 = some (6, false, true) ∧ 6 < 7 ∧
    body 7 = some (7, false, true) ∧
    ((((flying (.claim 30) 7 0).setPt 30 (claimRecord .sending)).pt 30).phase = some .sending) ∧
    (flying (.claim 30) 7 0).station = .active := by decide +kernel
/-- Addresses at the ends of a segment. -/
theorem witness_RanksAreDistinct :
    (3 : Addr).val < SegmentSize.n4.toNat ∧ (0 : Addr).val < SegmentSize.n4.toNat ∧
    (31 : Addr).val < SegmentSize.n32.toNat := by decide
/-- Urgent slots: rounds offered and not, a retry frame without and with the mark, requests of each kind, none, and the states that pass. -/
theorem witness_UrgentSlotChoice :
    let s (l : List Request) : State := { (station .active).setPt 30 heldRecord with tx := { control := l } }
    let ladder (next : Nat) : Ladder := { round := 2, next := next, offeredFrom := 3 }
    let round (l : Ladder) := if l.next = 0 then l.round else l.round + 1
    (station .active).line.state = .idle ∧ (station .active).line.ladder = some {} ∧
    round (ladder 0) < (ladder 0).offeredFrom ∧ (ladder 1).offeredFrom ≤ round (ladder 1) ∧
    (station .active).ctrl.freshStart = false ∧
    ((retrying .active (.claim 30) false).tx.frame.map fun b => b.place) = some (.retry false) ∧
    ((retrying .active (.claim 30) true).tx.frame.map fun b => b.place) = some (.retry true) ∧
    ((s [.claim 1, .assert 30]).tx.control = [.claim 1] ++ .assert 30 :: [] ∧ ((s []).pt 30).length = some 1) ∧
    ((s [.claim 1]).tx.control = [] ++ .claim 1 :: [] ∧ (∀ r ∈ (s [.claim 1]).tx.control, ∀ q, r ≠ .assert q)) ∧
    (∀ r ∈ (s [.presence]).tx.control, ∀ q, r ≠ .assert q ∧ r ≠ .claim q) ∧
    (station .leaving).station = .leaving := by decide +kernel
/-- Ranked slots: rounds offered and not, a retry frame, requests of two kinds, publishing alone, nothing at all, and the fresh-start marker. -/
theorem witness_RankedSlotChoice :
    let s := (station .active).setPt 30 heldRecord
    let fresh : State := { s with ctrl := { s.ctrl with freshStart := true } }
    let ladder (next : Nat) : Ladder := { round := 2, next := next, offeredFrom := 3 }
    let round (l : Ladder) := if l.next ≤ 5 then l.round else l.round + 1
    s.line.state = .idle ∧ s.line.ladder = some {} ∧ 1 + rankOf s.n s.own s.line.lastSource = 5 ∧
    round (ladder 5) < (ladder 5).offeredFrom ∧ (ladder 6).offeredFrom ≤ round (ladder 6) ∧
    s.station = .active ∧ s.ctrl.freshStart = false ∧
    fresh.ctrl.freshStart = true ∧ s.tx.frame = none ∧
    ((retrying .active (.claim 30) true).tx.frame.map fun b => b.place) = some (.retry true) ∧
    ({ s with tx := { control := [.presence, .release 5, .release 6] } } : State).tx.control =
      [.presence] ++ .release 5 :: [.release 6] ∧
    s.tx.publish = [] ∧ ({ s with tx := { publish := [30] } } : State).tx.publish ≠ [] ∧
    (∀ p ∈ ([30] : List PointId), (s.pt p).value.isSome = true) := by decide +kernel
/-- LEAVING with the FAREWELL waiting as a request, as the retry frame and not at all; and slots that are not offered. -/
theorem witness_LeavingSlotSendsTheFarewell :
    let s := station .leaving
    s.line.state = .idle ∧ s.line.ladder = some {} ∧ s.station = .leaving ∧ s.tx.frame = none ∧
    Request.farewell ∈ ({ s with tx := { control := [.farewell] } } : State).tx.control ∧
    Request.farewell ∉ s.tx.control ∧
    ((retrying .leaving .farewell false).tx.frame.map fun b => b.place) = some (.retry false) ∧
    off.line.state ≠ .idle ∧ (station .clashed).station = .clashed := by decide +kernel

/-- A waiting frame and an idle Frame Processor, one that is applying, and an empty FIFO. -/
theorem witness_FrameItemsInOrder :
    let s : State := { station .active with rx := { fifo := [heard 2 .farewell] } }
    s.rx.applying = none ∧ s.rx.fifo = heard 2 .farewell :: [] ∧
    (hearing (station .active) 2 .farewell .roster).rx.applying ≠ none ∧ (station .active).rx.fifo = [] := by
  decide +kernel
/-- The roster item of a peer at N - 1. -/
theorem witness_RosterItemKeepsTheRoster :
    (hearing (station .active) 7 .farewell .roster).taking (heard 7 .farewell) .roster [] ∧
    (7 : Addr).val < (hearing (station .active) 7 .farewell .roster).n.toNat ∧
    (7 : Addr) ≠ (hearing (station .active) 7 .farewell .roster).own :=
  ⟨hearing_takes (.inr (.inl rfl)), by decide, by decide⟩
/-- An ASSERT of length 8 and a PUBLISH record act as holder; on a VACANT point and on a STALE one claimed by the source. -/
theorem witness_HolderFillsAFreePoint :
    (hearing (station .listening) 1 (.assert 30 8) (.assert 30 8)).taking (heard 1 (.assert 30 8)) (.assert 30 8) [] ∧
    FrameItem.holds (.assert 30 8) 30 8 none ∧
    FrameItem.holds (.record { point := 30, generation := 7, octets := [1, 2] }) 30 2
      (some { octets := [1, 2], generation := 7 }) ∧
    ((station .active).pt 30).state = .vacant ∧
    (let r := ((station .active).setPt 30 (staleRecord (some 1))).pt 30
     r.state = .stale ∧ r.owner ≠ none ∧ r.owner ≠ some 1 ∧ r.claimant = some 1) :=
  ⟨hearing_takes (.inl rfl), .inr ⟨8, rfl, by decide, by decide, rfl, rfl⟩, .inl ⟨7, [1, 2], rfl, rfl, rfl⟩,
    by decide +kernel, by decide +kernel⟩
/-- Records and ASSERTs from the owner at the edges of length and generation. -/
theorem witness_OwnerKeepsItsMirror :
    let s := (station .active).setPt 30 mirrorRecord
    let bare := (station .active).setPt 30 { mirrorRecord with length := none, value := none, age := none }
    (hearing s 6 (.assert 30 9) (.assert 30 9)).taking (heard 6 (.assert 30 9)) (.assert 30 9) [] ∧
    (s.pt 30).owner = some 6 ∧ (s.pt 30).state = .mirror ∧
    (s.pt 30).value = some { octets := [9], generation := 3 } ∧
    ((s.pt 30).length = some ([1] : List Octet).length ∧ (s.pt 30).length ≠ some ([1, 2] : List Octet).length) ∧
    (1 ≤ ((32770 : Generation) - 3).toNat ∧ ((32770 : Generation) - 3).toNat ≤ 32767) ∧
    ¬ ((32771 : Generation) - 3).toNat ≤ 32767 ∧ (bare.pt 30).value = none ∧ (bare.pt 30).length = none ∧
    (0 : Octet).toNat = 0 ∧ 8 < (9 : Octet).toNat :=
  ⟨hearing_takes (.inr (.inl rfl)), by decide +kernel, by decide +kernel, by decide +kernel, by decide +kernel, by decide,
    by decide, by decide +kernel, by decide +kernel, rfl, by decide⟩
/-- A held point challenged by a lower and by a higher address, in ACTIVE and in DETACHED. -/
theorem witness_HeldPointIsChallenged :
    let s (st : StationState) := (station st).setPt 30 heldRecord
    (hearing (s .active) 3 (.assert 30 1) (.assert 30 1)).taking (heard 3 (.assert 30 1)) (.assert 30 1) [] ∧
    (hearing (s .detached) 5 (.assert 30 1) (.assert 30 1)).taking (heard 5 (.assert 30 1)) (.assert 30 1) [] ∧
    FrameItem.holds (.assert 30 1) 30 1 none ∧ ((s .active).pt 30).state = .held ∧ (3 : Addr) < (s .active).own ∧
    (s .active).own ≤ (5 : Addr) :=
  ⟨hearing_takes (.inr (.inl rfl)), hearing_takes (.inr (.inr rfl)), .inr ⟨1, rfl, by decide, by decide, rfl, rfl⟩,
    by decide +kernel, by decide, by decide⟩
/-- Claims in the three phases. -/
theorem witness_WithdrawnWork :
    ∀ phase ∈ [ClaimPhase.requested, .sending, .window],
      (((station .active).setPt 30 (claimRecord phase)).pt 30).phase = some phase := by decide +kernel
/-- A dispute with its contender, and frames of lower and higher stations than the owner. -/
theorem witness_DisputeIsEntered :
    let s (r : PointRecord) := (station .active).setPt 30 r
    (hearing (s disputedRecord) 6 (.assert 30 1) (.assert 30 1)).taking (heard 6 (.assert 30 1)) (.assert 30 1) [] ∧
    FrameItem.holds (.assert 30 1) 30 1 none ∧
    (((s disputedRecord).pt 30).state = .disputed ∧ ((s disputedRecord).pt 30).owner = some 1 ∧
      ((s disputedRecord).pt 30).contender = some 6) ∧
    (((s (staleRecord (some 7))).pt 30).owner = some 6 ∧ (1 : Addr) < 6 ∧ (6 : Addr) < 7 ∧
      ((s (staleRecord (some 7))).pt 30).claimant ≠ some 1) ∧ ((s mirrorRecord).pt 30).owner = some 6 :=
  ⟨hearing_takes (.inr (.inl rfl)), .inr ⟨1, rfl, by decide, by decide, rfl, rfl⟩, by decide +kernel, by decide +kernel,
    by decide +kernel⟩
/-- A claim that meets an ASSERT and CLAIMs of the addresses next to the own one. -/
theorem witness_ClaimIsLost :
    let s := (station .active).setPt 30 (claimRecord .window)
    (hearing s 3 (.claim 30) (.claim 30)).taking (heard 3 (.claim 30)) (.claim 30) [] ∧
    (hearing s 5 (.assert 30 1) (.assert 30 1)).taking (heard 5 (.assert 30 1)) (.assert 30 1) [] ∧
    FrameItem.holds (.assert 30 1) 30 1 none ∧ (s.pt 30).state = .claiming ∧ (3 : Addr) < s.own ∧ s.own < (5 : Addr) :=
  ⟨hearing_takes (.inr (.inl rfl)), hearing_takes (.inr (.inl rfl)), .inr ⟨1, rfl, by decide, by decide, rfl, rfl⟩,
    by decide +kernel, by decide, by decide⟩
/-- CLAIMs on points in each state. -/
theorem witness_ClaimIsHeard :
    let s (r : PointRecord) := (station .active).setPt 30 r
    (hearing (s mirrorRecord) 6 (.claim 30) (.claim 30)).taking (heard 6 (.claim 30)) (.claim 30) [] ∧
    (hearing ((station .detached).setPt 30 heldRecord) 6 (.claim 30) (.claim 30)).taking (heard 6 (.claim 30)) (.claim 30)
      [] ∧
    ((s {}).pt 30).state = .vacant ∧ ((s (staleRecord (some 2))).pt 30).owner ≠ some 1 ∧
    ((s mirrorRecord).pt 30).owner = some 6 ∧ ((s disputedRecord).pt 30).contender = some 6 ∧
    ((s disputedRecord).pt 30).owner ≠ some 6 ∧ ((s heldRecord).pt 30).state = .held :=
  ⟨hearing_takes (.inr (.inl rfl)), hearing_takes (.inr (.inr rfl)), by decide +kernel, by decide +kernel,
    by decide +kernel, by decide +kernel, by decide +kernel, by decide +kernel⟩
/-- RELEASEs of the owner, the claimant, both parties of a dispute, and a RECALL. -/
theorem witness_ReleaseAndRecallAreHeard :
    let s (r : PointRecord) := (station .active).setPt 30 r
    (hearing (s mirrorRecord) 6 (.release 30) (.release 30)).taking (heard 6 (.release 30)) (.release 30) [] ∧
    (hearing (s heldRecord) 6 (.recall 4 [30]) (.recall [30])).taking (heard 6 (.recall 4 [30])) (.recall [30]) [] ∧
    ((s mirrorRecord).pt 30).owner = some 6 ∧ ((s (staleRecord (some 2))).pt 30).claimant = some 2 ∧
    ((s disputedRecord).pt 30).owner = some 1 ∧ ((s disputedRecord).pt 30).contender = some 6 ∧
    ((s heldRecord).pt 30).state = .held ∧ (station .detached).station ≠ .active :=
  ⟨hearing_takes (.inr (.inl rfl)), hearing_takes (.inr (.inl rfl)), by decide +kernel, by decide +kernel,
    by decide +kernel, by decide +kernel, by decide +kernel, by decide⟩

/-- Timers of a point at their limits, 1 ms below them, and stopped. -/
theorem witness_PointTimersExpire :
    let s (r : PointRecord) := (station .active).setPt 255 r
    let claim (ms : Nat) : PointRecord := { claimRecord .window with claimWindow := some ms }
    (station .active).station = .active ∧ (station .active).period = 100 ∧
    ((s (claim 100)).pt 255).claimWindow = some 100 ∧ ((s (claim 99)).pt 255).claimWindow = some 99 ∧
    ((s (claim 100)).pt 255).value = some { octets := [9], generation := 0 } ∧
    ((s { heldRecord with refreshTimer := some 100 }).pt 255).refreshTimer = some 100 ∧
    (station .detached).station = .detached ∧
    ((s { mirrorRecord with staleTimer := some 300 }).pt 255).staleTimer = some 300 ∧
    ((s mirrorRecord).pt 255).owner = some 6 ∧
    ((s { disputedRecord with contenderTimer := some 300 }).pt 255).contenderTimer = some 300 ∧
    ((s {}).pt 255).claimWindow = none := by decide +kernel
/-- The three station timers at their limits and restarted, with 15 and 16 requests waiting. -/
theorem witness_StationTimersExpire :
    let run (st : StationState) : State := { station st with ctrl :=
      { (station st).ctrl with listenTimer := some 300, presenceTimer := some 100, leaseTimer := some 500 } }
    let list (n : Nat) : State := { run .active with tx := { control := List.replicate n .farewell } }
    (run .listening).station = .listening ∧ 3 * (run .listening).period ≤ 300 ∧
    (list 15).station = .active ∧ (list 15).period ≤ 100 ∧
    Request.presence ∉ (list 15).tx.control ∧ (list 15).tx.control.length < 16 ∧
    16 ≤ (list 16).tx.control.length ∧ Request.presence ∈ ({ run .active with
      tx := { control := [.presence] } } : State).tx.control ∧
    50 * (run .active).ctrl.config.lease.toNat ≤ 500 ∧ ¬ 50 * (run .active).ctrl.config.lease.toNat ≤ 0 := by
  decide +kernel
/-- A PRESENT and a SILENT peer, at the limits and 1 ms below them. -/
theorem witness_SilenceMakesSilentThenGone :
    let s (st : PeerState) (ms : Nat) := (station .leaving).setPeer 7 { state := st, lastSeq := some 0, silence := some ms }
    (s .present 200).station = .leaving ∧ ((s .present 200).peer 7).silence = some 200 ∧
    2 * (s .present 200).period = 200 ∧ 5 * (s .silent 500).period = 500 ∧
    ((s .present 199).peer 7).silence = some 199 ∧ ((s .silent 499).peer 7).silence = some 499 ∧
    ((s .present 200).peer 7).state = .present ∧ ((s .silent 500).peer 7).state = .silent := by decide +kernel
/-- Queues with a record to merge into, with 31 and with 32 records. -/
theorem witness_EventsAreQueuedMergedOrLost :
    ([.claimWon 1, .pointChanged 30 4, .pointChanged 31 4] : List Event) =
      [.claimWon 1] ++ .pointChanged 30 4 :: [.pointChanged 31 4] ∧
    (∀ w ∈ ([.claimWon 1] : List Event) ++ [.pointChanged 31 4], ∀ o, w ≠ .pointChanged 30 o) ∧
    (List.replicate 31 (Event.claimWon 1)).length < 32 ∧ 32 ≤ (List.replicate 32 (Event.claimWon 1)).length ∧
    (∀ o, Event.rxOverrun o ∉ List.replicate 32 (Event.claimWon 1)) := by
  refine ⟨rfl, ?_, by decide, by decide, ?_⟩
  · intro w hw o h
    subst h
    simp at hw
  · intro o h
    simp at h
/-- The longest frame: a PUBLISH of 4 records of 8 octets, 55 octets; and octets that read as a frame. -/
theorem witness_FramesReadBackExactly :
    let r : PublishRecord := { point := 255, generation := 65535, octets := List.replicate 8 7 }
    let f : Frame := { source := 31, sequence := 255, body := .publish [r, r, r, r] }
    f.wf .n32 = true ∧ f.encode.length = 55 ∧
    readFrame .n8 [0x57, 7, 0xFF, 3, 0, 0] = some { source := 7, sequence := 3, body := .farewell } := by decide +kernel

/-- The reset state has every invariant, so that each statement about steps from states that have them has a state. -/
theorem witness_invariants :
    State.reset.RecordsFit ∧ State.reset.ReceptionFits ∧ State.reset.CountsAgree ∧ State.reset.PublishListFits ∧
    State.reset.ControlListFits ∧ State.reset.events.Fits ∧ State.reset.QueuesFit ∧ State.reset.RosterFits ∧
    State.reset.NamesKnown ∧ State.reset.TimersFit ∧ State.reset.LineFits ∧ State.reset.ConditionFits ∧
    State.reset.WorkFits := by
  unfold State.RecordsFit State.ReceptionFits State.CountsAgree State.PublishListFits State.ControlListFits
    EventQueue.Fits State.QueuesFit State.RosterFits State.NamesKnown State.TimersFit State.LineFits
    State.ConditionFits State.WorkFits
  refine ⟨by decide +kernel, ⟨by decide +kernel, ?_, by decide +kernel⟩, by decide +kernel, by decide +kernel,
    by decide +kernel, by decide +kernel, ⟨by decide +kernel, by decide +kernel, by decide +kernel, ?_, .inl rfl⟩,
    by decide +kernel, ⟨by decide +kernel, ?_⟩, by decide +kernel,
    ⟨by decide +kernel, by decide +kernel, by decide +kernel, by decide +kernel, ?_⟩, ?_,
    by decide +kernel, by decide +kernel, by decide +kernel, ?_⟩ <;> intro _ h <;> cases h
/-- A station in CLASHED with the invariant of the line, and a command that is not a reset. -/
theorem witness_ClashedIsFrozen :
    let s : State := { station .clashed with pending := [.csnFall] }
    s.LineFits ∧ s.station = .clashed ∧ s.pending = .csnFall :: [] := by
  refine ⟨⟨by decide +kernel, by decide +kernel, by decide +kernel, by decide +kernel, ?_⟩, by decide +kernel,
    by decide +kernel⟩
  rintro _ ⟨⟩
  decide +kernel

end Sys2Proof.Tests
end

section
/-! SUPPORT. What the proofs about claiming and releasing points share: the item rows, the words of Safety.lean in the
model's operations, and the built frame when its work is withdrawn. -/

namespace Sys2Proof.Machine

/-! ### Events about one point -/

theorem State.offerPoint_eq_telling (s : State) (p : PointId) (e : Event) : s.offerPoint p e = s.telling p [e] := rfl

@[simp] theorem State.telling_nil (s : State) (p : PointId) : s.telling p [] = s := by
  unfold State.telling
  split <;> rfl

theorem State.postCarried_eq_telling (s : State) (p : PointId) (c : Carried) :
    s.postCarried p c = s.telling p (changedBy p c.value) := by
  cases h : c.value <;> simp [State.postCarried, changedBy, h, State.offerPoint_eq_telling]

/-! ### Records in the words of Safety.lean -/

theorem PointRecord.mirrorOf_eq_mirrored (r : PointRecord) (y : Addr) (length : Option Nat) (value : Option Value) :
    r.mirrorOf y length value = r.mirrored y length value := by
  cases value <;> rfl

theorem lowerClaimant_some (d c : Addr) : lowerClaimant (some d) c = some (min c d) := by
  by_cases h : c < d
  · simp [lowerClaimant, h, min_eq_left h.le]
  · simp [lowerClaimant, h, min_eq_right (not_lt.mp h)]

@[simp] theorem octetPoint_pointOctet (p : PointId) : octetPoint (pointOctet p) = p := rfl

/-! ### Items of the frame being applied -/

theorem State.takesFrames_iff (s : State) :
    s.takesFrames = true ↔ s.station = .listening ∨ s.station = .active ∨ s.station = .detached := by
  simp [State.takesFrames, or_assoc]

/-- An item that a row takes has its effect on the state in which it has left the frame (R142). -/
theorem State.takeItem_taking {s : State} {f : Frame} {item : FrameItem} {rest : List FrameItem}
    (h : s.taking f item rest) {take : Frame → FrameItem → Option (State → State)} {effect : State → State}
    (ht : take f item = some effect) : s.takeItem take = effect (s.itemTaken f rest) := by
  obtain ⟨ha, hs⟩ := h
  simp only [State.takeItem, ha, ht, (s.takesFrames_iff).mpr hs, if_true]
  rfl

theorem exec_publishRecord_taking {s : State} {f : Frame} {r : PublishRecord} {rest : List FrameItem}
    (h : s.taking f (.record r) rest) :
    exec .publishRecord s = .next ((s.itemTaken f rest).publishRecord f.source r) :=
  congrArg Host.Outcome.next (State.takeItem_taking h (effect := fun t => t.publishRecord f.source r) rfl)

theorem exec_assertHeard_taking {s : State} {f : Frame} {p : PointId} {o : Octet} {rest : List FrameItem}
    (h : s.taking f (.assert p o) rest) :
    exec .assertHeard s = .next ((s.itemTaken f rest).assertHeard f.source p o) :=
  congrArg Host.Outcome.next (State.takeItem_taking h (effect := fun t => t.assertHeard f.source p o) rfl)

theorem exec_claimHeard_taking {s : State} {f : Frame} {p : PointId} {rest : List FrameItem}
    (h : s.taking f (.claim p) rest) :
    exec .claimHeard s = .next ((s.itemTaken f rest).claimHeard f.source p) :=
  congrArg Host.Outcome.next (State.takeItem_taking h (effect := fun t => t.claimHeard f.source p) rfl)

theorem exec_releaseHeard_taking {s : State} {f : Frame} {p : PointId} {rest : List FrameItem}
    (h : s.taking f (.release p) rest) :
    exec .releaseHeard s = .next ((s.itemTaken f rest).releaseHeard f.source p) :=
  congrArg Host.Outcome.next (State.takeItem_taking h (effect := fun t => t.releaseHeard f.source p) rfl)

theorem exec_recallHeard_taking {s : State} {f : Frame} {ids : List PointId} {rest : List FrameItem}
    (h : s.taking f (.recall ids) rest) :
    exec .recallHeard s = .next ((s.itemTaken f rest).recallHeard ids) :=
  congrArg Host.Outcome.next (State.takeItem_taking h (effect := fun t => t.recallHeard ids) rfl)

/-- A PUBLISH record and an ASSERT meet the table in one way; they differ in the cause of a lost claim and in what they
do when they come from the owner (R36, R37, R62). -/
theorem exec_row_of_holds {s : State} {f : Frame} {item : FrameItem} {rest : List FrameItem} {p : PointId} {k : Nat}
    {value : Option Value} (h : s.taking f item rest) (hh : item.holds p k value) :
    ∃ fromOwner, exec item.row s = .next ((s.itemTaken f rest).holderActs p f.source { length := k, value := value }
      (if value.isSome = true then .published else .asserted) fromOwner) := by
  obtain ⟨g, octets, rfl, rfl, rfl⟩ | ⟨o, rfl, hlo, hhi, rfl, rfl⟩ := hh
  · exact ⟨fun t => t.ownerPublishes p octets.length { octets := octets, generation := g },
      exec_publishRecord_taking h⟩
  · refine ⟨fun t => t.ownerAsserts p o.toNat, (exec_assertHeard_taking h).trans ?_⟩
    rw [State.assertHeard, if_pos ⟨hlo, hhi⟩]
    rfl

theorem State.holderActs_held {s : State} {p : PointId} (h : (s.pt p).state = .held) (y : Addr) (c : Carried)
    (loss : ClaimLoss) (fromOwner : State → State) : s.holderActs p y c loss fromOwner = s.challenge p y c := by
  simp only [State.holderActs, h]

theorem State.holderActs_claiming {s : State} {p : PointId} (h : (s.pt p).state = .claiming) (y : Addr) (c : Carried)
    (loss : ClaimLoss) (fromOwner : State → State) : s.holderActs p y c loss fromOwner = s.loseClaimTo p y c loss := by
  simp only [State.holderActs, h]

/-! ### Holding, yielding, defending -/

theorem State.challenge_active {s : State} (h : s.station = .active) (p : PointId) (y : Addr) (c : Carried) :
    s.challenge p y c = if y < s.own then s.yield p y c .lowerAddress else s.defend p := by
  simp only [State.challenge, h]

theorem State.challenge_detached {s : State} (h : s.station = .detached) (p : PointId) (y : Addr) (c : Carried) :
    s.challenge p y c = s.yield p y c .yieldedDetached := by
  simp only [State.challenge, h]

/-- A yielded point: the holding ends, the record mirrors the new owner, and the two events are posted in turn. -/
theorem State.yield_eq (s : State) (p : PointId) (y : Addr) (c : Carried) (cause : OwnershipLoss) :
    s.yield p y c cause =
      State.telling { (s.leaveHeld p).setPt p ((s.pt p).mirrored y (some c.length) c.value) with
        events := s.events.offer (.ownershipLost p cause (some y)) } p (changedBy p c.value) := by
  rw [State.yield, State.postCarried_eq_telling, State.mirrorCarried, PointRecord.mirrorOf_eq_mirrored,
    State.pt_leaveHeld]
  rfl

/-- A claim lost to a holder: the claim ends, the record mirrors the holder, and the two events are posted in turn. -/
theorem State.loseClaimTo_eq (s : State) (p : PointId) (y : Addr) (c : Carried) (cause : ClaimLoss) :
    s.loseClaimTo p y c cause =
      State.telling { (s.withdrawClaim p).setPt p ((s.pt p).mirrored y (some c.length) c.value) with
        events := s.events.offer (.claimLost p cause (some y)) } p (changedBy p c.value) := by
  rw [State.loseClaimTo, State.postCarried_eq_telling, State.mirrorCarried, PointRecord.mirrorOf_eq_mirrored,
    State.pt_withdrawClaim]
  rfl

theorem State.ownerLeaves_eq (s : State) (p : PointId) (x : Addr) (claimant : Option Addr) :
    s.ownerLeaves p x claimant =
      (s.setPt p ((s.pt p).vacated claimant)).telling p [.ownerChanged p (some x) none] := rfl

theorem State.promote_eq {s : State} {p : PointId} {y : Addr} (h : (s.pt p).contender = some y) (x : Addr) :
    s.promote p x =
      (s.setPt p ((s.pt p).mirrored y none none)).telling p [.ownerChanged p (some x) (some y)] := by
  simp only [State.promote, h]
  rfl

theorem Scheduler.publishId_eq (t : Scheduler) (p : PointId) :
    t.publishId p = { t with publish := if p ∈ t.publish then t.publish else t.publish ++ [p] } := by
  unfold Scheduler.publishId
  split <;> rfl

/-- The defence of Safety.lean in the model's own words: an ASSERT of the point is in flight or waits as the retry frame
(R44). -/
theorem State.defended_eq (s : State) (p : PointId) :
    s.defended p =
      if Request.assert p ∈ s.tx.control ∨ s.tx.assertBuilt p = true then s.appendPublish p
      else if s.tx.control.length < 16 then
        State.appendPublish { s with tx := { s.tx with control := s.tx.control ++ [.assert p] } } p
      else (s.countDropped .assert (some p)).appendPublish p := by
  have hc (c : Counter) : (if c = 0xFFFF then 0xFFFF else c + 1) = countUp c := by
    unfold countUp
    split <;> simp_all
  simp only [State.defended, State.appendPublish, Scheduler.publishId_eq, hc]
  refine if_congr (or_congr Iff.rfl ?_) rfl rfl
  rw [Scheduler.assertBuilt]
  cases s.tx.frame with
  | none => rfl
  | some b => cases hb : b.frame.body <;> cases hq : b.place <;> simp [hb, hq, Body.isAssertOf]

theorem Scheduler.not_full_iff (t : Scheduler) : ¬ t.full = true ↔ t.control.length < 16 := by
  rw [Scheduler.full_iff, Nat.not_le]

theorem State.defend_eq_defended (s : State) (p : PointId) : s.defend p = s.defended p := by
  rw [State.defended_eq, State.defend, State.requestAssert]
  split
  · rfl
  · rename_i h
    have hn : Request.assert p ∉ s.tx.control := fun hm => h (.inl hm)
    by_cases hl : s.tx.control.length < 16
    · rw [if_neg (s.tx.not_full_iff.mpr hl), if_pos hl, Scheduler.append, if_neg hn]
    · rw [if_pos (s.tx.full_iff.mpr (Nat.le_of_not_lt hl)), if_neg hl]

/-- The points of a list, taken in turn, join the publish list where they are HELD and not on it yet. -/
theorem State.foldl_appendHeld (s : State) (ids : List PointId) :
    ids.foldl State.appendHeld s = { s with tx := { s.tx with
      publish := ids.foldl (fun l p => if (s.pt p).state = .held ∧ p ∉ l then l ++ [p] else l) s.tx.publish } } := by
  induction ids generalizing s with
  | nil => rfl
  | cons p ids ih =>
    have hone : s.appendHeld p = { s with tx := { s.tx with
        publish := if (s.pt p).state = .held ∧ p ∉ s.tx.publish then s.tx.publish ++ [p] else s.tx.publish } } := by
      by_cases hh : (s.pt p).state = .held <;> by_cases hm : p ∈ s.tx.publish <;>
        simp [State.appendHeld, State.appendPublish, Scheduler.publishId, hh, hm]
    rw [List.foldl_cons, ih, List.foldl_cons, hone]
    rfl

/-! ### The built frame when its work is withdrawn -/

/-- What becomes of a built frame whose work is withdrawn: a retry frame is discarded, a frame in flight is marked, and
one that was cut off stays (R33, R45, R153). -/
def BuiltFrame.shed (b : BuiltFrame) : Option BuiltFrame :=
  match b.place with
  | .retry _ => none
  | .inFlight _ => some { b with withdrawn := true }
  | .cutOff => some b

/-- The built frame after the work that `named` names has been withdrawn. -/
def shedWork (named : Body → Bool) (frame : Option BuiltFrame) : Option BuiltFrame :=
  frame.bind fun b => if named b.frame.body then b.shed else some b

/-- Withdrawing work touches the built frame alone. -/
theorem Scheduler.withdraw_eq (t : Scheduler) (named : Body → Bool) :
    t.withdraw named = { t with frame := shedWork named t.frame } := by
  obtain ⟨_, _, frame, _⟩ := t
  cases frame with
  | none => rfl
  | some b =>
    by_cases hn : named b.frame.body = true
    · cases hp : b.place <;> simp [Scheduler.withdraw, shedWork, BuiltFrame.shed, hn, hp]
    · simp [Scheduler.withdraw, shedWork, hn]

/-- A claim that is withdrawn, by its phase (R33). -/
theorem State.withdrawClaim_requested {s : State} {p : PointId} (h : (s.pt p).phase = some .requested) :
    s.withdrawClaim p = { s with
      claimingCount := s.claimingCount - 1
      tx := { s.tx with control := s.tx.control.filter (· ≠ .claim p) } } := by
  simp only [State.withdrawClaim, h]
  rfl

theorem State.withdrawClaim_sending {s : State} {p : PointId} (h : (s.pt p).phase = some .sending) :
    s.withdrawClaim p = { s with
      claimingCount := s.claimingCount - 1
      tx := { s.tx with frame := shedWork (Body.isClaimOf p) s.tx.frame } } := by
  simp only [State.withdrawClaim, h, Scheduler.withdraw_eq]

/-- In WINDOW the CLAIM has gone out: no work of the Scheduler is left to withdraw. -/
theorem State.withdrawClaim_sent {s : State} {p : PointId} (hr : (s.pt p).phase ≠ some .requested)
    (hs : (s.pt p).phase ≠ some .sending) :
    s.withdrawClaim p = { s with claimingCount := s.claimingCount - 1 } := by
  match h : (s.pt p).phase with
  | some .requested => exact absurd h hr
  | some .sending => exact absurd h hs
  | some .window => simp only [State.withdrawClaim, h]
  | none => simp only [State.withdrawClaim, h]

theorem State.leaveHeld_eq (s : State) (p : PointId) :
    s.leaveHeld p = { s with
      heldCount := s.heldCount - 1
      tx := { s.tx with
        control := s.tx.control.filter (· ≠ .assert p)
        publish := s.tx.publish.filter (· ≠ p)
        frame := shedWork (Body.isAssertOf p) s.tx.frame } } := by
  simp only [State.leaveHeld, Scheduler.withdraw_eq]
  rfl

theorem Body.isClaimOf_eq (p : PointId) (b : Body) : Body.isClaimOf p b = decide (b = .claim p) := by
  cases b <;> simp [Body.isClaimOf]

end Sys2Proof.Machine
end

section
/-! SUPPORT. What ends with a claim and with a holding (O43). -/

namespace Sys2Proof.Machine

/-- Settles O43: withdrawing touches the lists by removal and the built frame by `BuiltFrame.shed`. -/
theorem withdrawnWork : Obligations.WithdrawnWork := by
  unfold Obligations.WithdrawnWork
  intro s p shed isClaim isAssert
  have hshed (named : Body → Bool) (gone : Bool) (h : ∀ b, s.tx.frame = some b → gone = named b.frame.body) :
      shedWork named s.tx.frame = shed gone := by
    simp only [shed, shedWork]
    cases hf : s.tx.frame with
    | none => rfl
    | some b => rw [h b hf]; rfl
  have hclaim : shedWork (Body.isClaimOf p) s.tx.frame = shed isClaim :=
    hshed _ _ fun b hb => by simp only [isClaim, hb, Body.isClaimOf_eq]
  have hassert : shedWork (Body.isAssertOf p) s.tx.frame = shed isAssert :=
    hshed _ _ fun b hb => by simp only [isAssert, hb]; cases b.frame.body <;> rfl
  refine ⟨State.withdrawClaim_requested, fun h => ?_, fun h => ?_, ?_⟩
  · rw [State.withdrawClaim_sending h, hclaim]
  · exact State.withdrawClaim_sent (by simp [h]) (by simp [h])
  · rw [State.leaveHeld_eq, hassert]

end Sys2Proof.Machine
end

section
/-! SUPPORT. CLAIM POINT and RELEASE POINT (O22, O23). -/

namespace Sys2Proof.Machine

/-- The command in hand has left the queue (R172). -/
def State.dequeued (s : State) (rest : List QueuedCommand) : State := { s with host := { s.host with queue := rest } }

/-! ### CLAIM POINT -/

/-- The checks of R30 in their order. -/
theorem claimPointItem_eq (s : State) (p : PointId) (length : Octet) (octets : List Octet) :
    claimPointItem (pointOctet p :: length :: octets) s =
      if ¬ ((s.pt p).state = .vacant ∨ (s.pt p).state = .stale) then s.refuse .badPoint
      else if ¬ (1 ≤ length.toNat ∧ length.toNat ≤ 8 ∧ octets.length = length.toNat) then s.refuse .badLength
      else if ¬ (s.claimingCount < 4 ∧ s.heldCount + s.claimingCount < 64) then s.refuse .limit
      else if ¬ (s.tx.control.length < 16 ∨ Request.release p ∈ s.tx.control) then s.refuse .listFull
      else (s.claimPoint p octets).accept := by
  have hlength : length.toNat = 0 ∨ Config.valueMax < length.toNat ∨ octets.length ≠ length.toNat ↔
      ¬ (1 ≤ length.toNat ∧ length.toNat ≤ 8 ∧ octets.length = length.toNat) := by
    simp only [Config.valueMax]
    omega
  have hlimit : Config.claimLimit ≤ s.claimingCount ∨ Config.holdLimit ≤ s.heldCount + s.claimingCount ↔
      ¬ (s.claimingCount < 4 ∧ s.heldCount + s.claimingCount < 64) := by
    simp only [Config.claimLimit, Config.holdLimit]
    omega
  have hroom : s.tx.full = true ∧ Request.release p ∉ s.tx.control ↔
      ¬ (s.tx.control.length < 16 ∨ Request.release p ∈ s.tx.control) := by
    rw [Scheduler.full_iff, not_or, not_lt]
  exact if_congr not_or.symm rfl (if_congr hlength rfl (if_congr hlimit rfl (if_congr hroom rfl rfl)))

/-- An accepted claim where no CLAIM of the point waits: its request joins the list at the tail (R31). -/
theorem State.claimPoint_eq {s : State} {p : PointId} (h : Request.claim p ∉ s.tx.control) (octets : List Octet) :
    s.claimPoint p octets = { s.setPt p ((s.pt p).claimed s.own octets) with
      claimingCount := s.claimingCount + 1
      tx := { s.tx with control := s.tx.control.filter (· ≠ .release p) ++ [.claim p] } } := by
  have hn : Request.claim p ∉ (s.tx.remove (.release p)).control := fun hm => h (List.mem_of_mem_filter hm)
  simp only [State.claimPoint, State.setPt_tx, Scheduler.append, hn, if_false]
  rfl

/-- Settles O22: each check of R30 refuses through `State.taken_exception`; past them all the claim is opened. -/
theorem claimPointOpensAClaim : Obligations.ClaimPointOpensAClaim := by
  unfold Obligations.ClaimPointOpensAClaim
  intro s q rest p length octets hr hq free fits below room
  let t := s.dequeued rest
  have item : claimPointItem q.params t =
      if ¬ free then t.refuse .badPoint
      else if ¬ fits then t.refuse .badLength
      else if ¬ below then t.refuse .limit
      else if ¬ room then t.refuse .listFull
      else (t.claimPoint p octets).accept := by
    rw [hq]
    exact claimPointItem_eq t p length octets
  have refused {status : Status} (hi : claimPointItem q.params t = t.refuse status)
      (he : status.isException = true) : exec .claimPoint s = .next (s.excepted q rest status) :=
    congrArg Host.Outcome.next (State.taken_exception hr (by decide) hi he)
  refine ⟨fun hf => ?_, fun hf hl => ?_, fun hf hl hb => ?_, fun hf hl hb hm => ?_, fun hf hl hb hm hc => ?_⟩
  · exact refused (item.trans (if_pos hf)) rfl
  · exact refused (by rw [item, if_neg (not_not_intro hf), if_pos hl]) rfl
  · exact refused (by rw [item, if_neg (not_not_intro hf), if_neg (not_not_intro hl), if_pos hb]) rfl
  · exact refused (by rw [item, if_neg (not_not_intro hf), if_neg (not_not_intro hl), if_neg (not_not_intro hb),
      if_pos hm]) rfl
  · have hi : claimPointItem q.params t = (t.claimPoint p octets).accept := by
      rw [item, if_neg (not_not_intro hf), if_neg (not_not_intro hl), if_neg (not_not_intro hb),
        if_neg (not_not_intro hm)]
    have he : exec .claimPoint s = .next ((t.claimPoint p octets).answered q rest .ok []) :=
      congrArg Host.Outcome.next (State.taken_ordinary hr hi rfl rfl)
    rw [he, State.claimPoint_eq (s := t) hc]
    rfl

/-! ### RELEASE POINT -/

theorem releasePointItem_other {s : State} {p : PointId} (hh : (s.pt p).state ≠ .held)
    (hc : (s.pt p).state ≠ .claiming) (more : List Octet) :
    releasePointItem (pointOctet p :: more) s = s.refuse .notHolder := by
  cases h : (s.pt p).state <;> simp_all [releasePointItem]

theorem releasePointItem_requested {s : State} {p : PointId} (hs : (s.pt p).state = .claiming)
    (hp : (s.pt p).phase = some .requested) (more : List Octet) :
    releasePointItem (pointOctet p :: more) s =
      ((s.withdrawClaim p).setPt p ((s.pt p).vacated none)).accept (releaseData false) := by
  simp only [releasePointItem, octetPoint_pointOctet, hs, hp, if_true]
  rfl

/-- A holding, and a claim past REQUESTED, are given up with a RELEASE, where there is room for it (R46 to R48). -/
theorem releasePointItem_announced {s t : State} {p : PointId}
    (h : ((s.pt p).state = .held ∧ t = (s.leaveHeld p).setPt p ((s.pt p).vacated none)) ∨
      ((s.pt p).state = .claiming ∧ (s.pt p).phase ≠ some .requested ∧
        t = (s.withdrawClaim p).setPt p ((s.pt p).vacated none))) (more : List Octet) :
    releasePointItem (pointOctet p :: more) s =
      (t.requestRelease p).1.accept (releaseData (t.requestRelease p).2) := by
  obtain ⟨hs, rfl⟩ | ⟨hs, hp, rfl⟩ := h
  · simp only [releasePointItem, octetPoint_pointOctet, hs]
    rfl
  · simp only [releasePointItem, octetPoint_pointOctet, hs, hp, if_false]
    rfl

/-- Settles O23: the point is given up as its state says, then the RELEASE is queued as the control list allows. -/
theorem releasePointGivesUpAPoint : Obligations.ReleasePointGivesUpAPoint := by
  unfold Obligations.ReleasePointGivesUpAPoint
  intro s q rest p more hr hq vacant
  refine ⟨fun hh hc => ?_, fun hc hp => ?_, fun t ht => ?_⟩
  · have hi : releasePointItem q.params (s.dequeued rest) = (s.dequeued rest).refuse .notHolder := by
      rw [hq]
      exact releasePointItem_other (s := s.dequeued rest) hh hc more
    exact congrArg Host.Outcome.next (State.taken_exception hr (by decide) hi rfl)
  · have hi : releasePointItem q.params (s.dequeued rest) =
        (((s.withdrawClaim p).setPt p vacant).dequeued rest).accept (releaseData false) := by
      rw [hq]
      exact releasePointItem_requested (s := s.dequeued rest) hc hp more
    have he : exec .releasePoint s =
        .next ((((s.withdrawClaim p).setPt p vacant).dequeued rest).answered q rest .ok (releaseData false)) :=
      congrArg Host.Outcome.next (State.taken_ordinary hr hi rfl rfl)
    exact he
  · have hi : releasePointItem q.params (s.dequeued rest) =
        ((t.dequeued rest).requestRelease p).1.accept (releaseData ((t.dequeued rest).requestRelease p).2) := by
      rw [hq]
      refine releasePointItem_announced (ht.imp ?_ ?_) more
      · rintro ⟨hs, rfl⟩
        exact ⟨hs, rfl⟩
      · rintro ⟨hs, hp, rfl⟩
        exact ⟨hs, hp, rfl⟩
    have answer {u : State} {unannounced : Bool} (hu : (t.dequeued rest).requestRelease p = (u, unannounced))
        (hh : u.host.queue = rest) :
        exec .releasePoint s = .next (u.answered q rest .ok (releaseData unannounced)) := by
      rw [hu] at hi
      exact congrArg Host.Outcome.next (State.taken_ordinary hr hi rfl hh)
    rcases (t.dequeued rest).requestRelease_cases p with ⟨hm, he⟩ | ⟨hm, hl, he⟩ | ⟨hm, hl, he⟩
    · exact ⟨fun hn _ => absurd hm hn, fun hn _ => absurd hm hn, fun _ => answer he rfl⟩
    · exact ⟨fun _ hn => absurd hl (Nat.not_le_of_lt hn), fun _ _ => answer he rfl, fun hn => absurd hn hm⟩
    · exact ⟨fun _ _ => answer he rfl, fun _ hn => absurd hl (Nat.not_lt_of_le hn), fun hn => absurd hn hm⟩

end Sys2Proof.Machine
end

section
/-! SUPPORT. Frames of other stations at held and claimed points, and CLAIM, RELEASE and RECALL heard (O42, O45, O46,
O47). -/

namespace Sys2Proof.Machine

/-! ### A HELD or CLAIMING point and a station that acts as its holder -/

/-- Settles O42: the reaction is `State.challenge`, by station state and address. -/
theorem heldPointIsChallenged : Obligations.HeldPointIsChallenged := by
  unfold Obligations.HeldPointIsChallenged
  intro s f item rest p k value ht hh hs t yielded
  obtain ⟨fromOwner, he⟩ := exec_row_of_holds ht hh
  have hp : t.pt p = s.pt p := State.pt_itemTaken ..
  have hown : t.own = s.own := rfl
  have hy (cause : OwnershipLoss) : t.yield p f.source { length := k, value := value } cause = yielded cause := by
    rw [State.yield_eq, hp]
    rfl
  rw [he, State.holderActs_held (hp ▸ hs)]
  refine ⟨fun ha hlt => ?_, fun hd => ?_, fun ha hle => ?_⟩
  · rw [State.challenge_active (s := t) ha, hown, if_pos hlt, hy]
  · rw [State.challenge_detached (s := t) hd, hy]
  · rw [State.challenge_active (s := t) ha, hown, if_neg (not_lt.mpr hle), State.defend_eq_defended]

/-- Settles O45: a holder takes the point by `State.loseClaimTo`, a lower claimant by `State.loseClaimContended`. -/
theorem claimIsLost : Obligations.ClaimIsLost := by
  unfold Obligations.ClaimIsLost
  intro s f item rest p ht hs t y
  have hp : t.pt p = s.pt p := State.pt_itemTaken ..
  refine ⟨fun k value hh => ?_, ?_, ?_⟩
  · obtain ⟨fromOwner, he⟩ := exec_row_of_holds ht hh
    rw [he, State.holderActs_claiming (hp ▸ hs), State.loseClaimTo_eq, hp]
    rfl
  · rintro rfl hlt
    have hc : t.claimHeard y p = t.loseClaimContended p y := by
      simp only [State.claimHeard, hp, hs]
      exact if_pos hlt
    rw [exec_claimHeard_taking ht, hc, State.loseClaimContended, hp]
    rfl
  · rintro rfl hlt
    have hc : t.claimHeard y p = t := by
      simp only [State.claimHeard, hp, hs]
      exact if_neg (lt_asymm hlt)
    rw [exec_claimHeard_taking ht, hc]

/-! ### CLAIM, RELEASE and RECALL -/

/-- Settles O46: one case for each row of R41 to R43. -/
theorem claimIsHeard : Obligations.ClaimIsHeard := by
  unfold Obligations.ClaimIsHeard
  intro s f rest p ht t c r lower owned
  have hp : t.pt p = r := State.pt_itemTaken ..
  have hl : lowerClaimant r.claimant c = lower := by
    simp only [lower]
    cases r.claimant with
    | none => rfl
    | some d => exact lowerClaimant_some d c
  have hst : t.station = s.station := rfl
  have he : exec .claimHeard s = .next (t.claimHeard c p) := exec_claimHeard_taking ht
  rw [he]
  refine ⟨?_, ?_, fun hd ho hk => ?_, ?_, fun hh ha => ?_, fun hh hd => ?_⟩
  · rintro (hv | ⟨hv, ho⟩)
    · simp only [State.claimHeard, hp, hv, hl]
    · simp only [State.claimHeard, hp, hv, ho, hl, if_false]
  · rintro ⟨hs, ho⟩
    have hleaves : t.claimHeard c p = t.ownerLeaves p c (some c) := by
      rcases hs with hs | hs | hs <;> simp only [State.claimHeard, hp, hs, ho, if_true]
    rw [hleaves, State.ownerLeaves_eq, hp]
  · simp only [State.claimHeard, hp, hd, ho, hk, if_true, if_false]
  · rintro (⟨hm, ho⟩ | ⟨hd, ho, hk⟩)
    · simp only [State.claimHeard, hp, hm, ho, if_false]
    · simp only [State.claimHeard, hp, hd, ho, hk, if_false]
  · simp only [State.claimHeard, hp, hh, hst, ha, State.defend_eq_defended]
  · simp only [State.claimHeard, hp, hh, hst, hd, State.yieldToClaim]
    rfl

/-- Settles O47: RELEASE by the part `x` plays in the record, RECALL by `State.foldl_appendHeld`. -/
theorem releaseAndRecallAreHeard : Obligations.ReleaseAndRecallAreHeard := by
  unfold Obligations.ReleaseAndRecallAreHeard
  intro s f rest p ids t x r
  have hp : t.pt p = r := State.pt_itemTaken ..
  refine ⟨fun ht => ?_, fun ht => ?_⟩
  · have he : exec .releaseHeard s = .next (t.releaseHeard x p) := exec_releaseHeard_taking ht
    rw [he]
    refine ⟨fun hs ho => ?_, ?_, fun hd ho y hy => ?_, fun hd ho hk => ?_, fun hn => ?_⟩
    · have hleaves : t.releaseHeard x p = t.ownerLeaves p x (otherClaimant r.claimant x) := by
        rcases hs with hs | hs <;> simp only [State.releaseHeard, hp, hs, ho, if_true]
      rw [hleaves, State.ownerLeaves_eq, hp]
      rfl
    · rintro (hs | ⟨hs, ho⟩) hc
      · simp only [State.releaseHeard, hp, hs, hc, if_true]
      · simp only [State.releaseHeard, hp, hs, ho, hc, if_true, if_false]
    · have hy' : (t.pt p).contender = some y := hp ▸ hy
      simp only [State.releaseHeard, hp, hd, ho, if_true]
      rw [State.promote_eq hy', hp]
    · simp only [State.releaseHeard, hp, hd, ho, hk, if_true, if_false, State.dropContender]
      rfl
    · rcases hn with hs | hs | ⟨ho, hk, hc⟩
      · simp only [State.releaseHeard, hp, hs]
      · simp only [State.releaseHeard, hp, hs]
      · cases hs : r.state <;> simp only [State.releaseHeard, hp, hs, ho, hk, hc, if_false]
  · have he : exec .recallHeard s = .next (if s.station = .active then ids.foldl State.appendHeld t else t) :=
      exec_recallHeard_taking ht
    rw [he]
    refine ⟨fun ha => ?_, fun ha => ?_⟩
    · rw [if_pos ha, State.foldl_appendHeld]
      simp only [t, State.pt_itemTaken, State.itemTaken_tx]
    · rw [if_neg ha]

end Sys2Proof.Machine
end

section
/-! SUPPORT. A collision of the own frame (O32). -/

namespace Sys2Proof.Machine

/-! ### What becomes of an aborted frame -/

theorem State.collides_inFlight {s : State} {b : BuiltFrame} {slot : Nat} (hl : s.line.state = .sending)
    (hf : s.tx.frame = some b) (hp : b.place = .inFlight slot) (hr : b.readBack < b.frame.encode.length) :
    s.collides = State.aborted { s with
      line := { s.line with state := .discarding true, octets := [], gap := some 0, ladder := none }
      counters := { s.counters with collisions := countUp s.counters.collisions } } b slot := by
  have hw : ¬ b.readWhole = true := by
    simpa [BuiltFrame.readWhole] using hr
  simp only [State.collides, hl, hf, hp]
  exact if_neg hw

theorem State.aborted_withdrawn {b : BuiltFrame} (h : b.withdrawn = true) (s : State) (slot : Nat) :
    s.aborted b slot = { s with tx := { s.tx with frame := none } } := by
  rw [State.aborted, if_pos h]

theorem State.aborted_retried {b : BuiltFrame} (h : b.withdrawn = false) (ha : b.attempts < 7) (s : State)
    (slot : Nat) :
    s.aborted b slot = { s with tx := { s.tx with
      frame := some { b with
        attempts := b.attempts + 1, place := .retry (decide (slot = 0)), readBack := 0 } } } := by
  have hlim : ¬ Config.attemptLimit ≤ b.attempts + 1 := by
    simp only [Config.attemptLimit]
    omega
  rw [State.aborted, if_neg (by simp [h]), if_neg hlim]

theorem State.aborted_dropped {b : BuiltFrame} (h : b.withdrawn = false) (ha : 7 ≤ b.attempts) (s : State)
    (slot : Nat) :
    s.aborted b slot =
      ((State.countDropped { s with tx := { s.tx with frame := none } } b.frame.body.kind
        b.frame.body.point?).dropReport b.frame.body) := by
  have hlim : Config.attemptLimit ≤ b.attempts + 1 := by
    simp only [Config.attemptLimit]
    omega
  rw [State.aborted, if_neg (by simp [h]), if_pos hlim]

/-! ### What a dropped frame reports -/

theorem State.claimDropped_lost {s : State} {p : PointId} (ht : s.takesFrames = true)
    (hs : (s.pt p).state = .claiming) (hp : (s.pt p).phase = some .sending) :
    s.claimDropped p = { s.setPt p ((s.pt p).vacated none) with
      claimingCount := s.claimingCount - 1
      events := s.events.offer (.claimLost p .txFailed none) } := by
  simp only [State.claimDropped]
  rw [if_pos ⟨ht, hs, hp⟩]
  rfl

theorem State.claimDropped_kept {s : State} {p : PointId}
    (h : ¬ (s.takesFrames = true ∧ (s.pt p).state = .claiming ∧ (s.pt p).phase = some .sending)) :
    s.claimDropped p = s := by
  simp only [State.claimDropped]
  exact if_neg h

/-- The HELD points of a dropped PUBLISH return to the publish list. -/
theorem State.dropReport_publish {s : State} (h : s.station = .active) (records : List PublishRecord) :
    s.dropReport (.publish records) = { s with tx := { s.tx with
      publish := records.foldl (fun ids r =>
        if (s.pt r.point).state = .held ∧ r.point ∉ ids then ids ++ [r.point] else ids) s.tx.publish } } := by
  have hm : s.dropReport (.publish records) = (records.map PublishRecord.point).foldl State.appendHeld s := by
    rw [List.foldl_map]
    exact if_pos h
  rw [hm, State.foldl_appendHeld, List.foldl_map]

/-- Session end in the words of Safety.lean (R29, R118). -/
theorem State.endSession_eq_offlineAfter (s : State) (cause : Cause) : s.endSession cause = s.offlineAfter cause := rfl

/-- Settles O32: the line is released and the collision counted; the frame then fares as `State.aborted` says. -/
theorem collisionAbortsTheFrame : Obligations.CollisionAbortsTheFrame := by
  unfold Obligations.CollisionAbortsTheFrame
  intro s b slot hl hf hp listens up t dropped hr
  have he : exec .collision s = .next (t.aborted b slot) :=
    congrArg Host.Outcome.next (State.collides_inFlight hl hf hp hr)
  rw [he]
  refine ⟨fun hw => ?_, fun hw ha => ?_, fun hw ha => ?_⟩
  · rw [State.aborted_withdrawn hw]
  · rw [State.aborted_retried hw ha]
  · have hd : t.aborted b slot = (dropped b.frame.body.kind b.frame.body.point?).dropReport b.frame.body :=
      State.aborted_dropped hw ha t slot
    rw [hd]
    refine ⟨?_, ?_, ?_, ?_, ?_, ?_, ?_⟩
    · intro p hb u lost
      have hlost : u.takesFrames = true ∧ (u.pt p).state = .claiming ∧ (u.pt p).phase = some .sending ↔ lost :=
        and_congr u.takesFrames_iff Iff.rfl
      rw [hb]
      refine ⟨fun h => ?_, fun h => ?_⟩
      · obtain ⟨ht, hs, hph⟩ := hlost.mpr h
        exact congrArg _ (State.claimDropped_lost ht hs hph)
      · exact congrArg _ (State.claimDropped_kept (mt hlost.mp h))
    · intro records hb u
      rw [hb]
      refine ⟨fun h => ?_, fun h => ?_⟩
      · exact congrArg _ (State.dropReport_publish (s := u) h records)
      · exact congrArg _ (if_neg h)
    · intro hb
      rw [hb]
      exact congrArg _ (State.endSession_eq_offlineAfter _ _)
    · intro p k hb
      rw [hb]
      rfl
    · intro p hb
      rw [hb]
      rfl
    · intro x ids hb
      rw [hb]
      rfl
    · intro st fresh held n pUnits hb
      rw [hb]
      rfl

end Sys2Proof.Machine
end

section
/-! SUPPORT. The timers of the station and the entry to DETACHED (O49). -/

namespace Sys2Proof.Machine

/-! ### One point on entry to DETACHED -/

theorem State.requestRelease_fst (s : State) (p : PointId) :
    (s.requestRelease p).1 = { s with tx := { s.tx with
      control := if Request.release p ∈ s.tx.control ∨ 16 ≤ s.tx.control.length then s.tx.control
        else s.tx.control ++ [.release p] } } := by
  rcases s.requestRelease_cases p with ⟨hm, he⟩ | ⟨hm, hl, he⟩ | ⟨hm, hl, he⟩ <;> rw [he]
  · rw [if_pos (.inl hm)]
  · rw [if_pos (.inr hl)]
  · rw [if_neg (not_or.mpr ⟨hm, Nat.not_le_of_lt hl⟩)]

/-- The control list after the claim of a point has been lost: the CLAIM request is taken off, or a RELEASE joins it where
there is room (R39). -/
def lostControl (r : PointRecord) (p : PointId) (control : List Request) : List Request :=
  if r.phase = some .requested then control.filter (· ≠ .claim p)
  else if Request.release p ∈ control ∨ 16 ≤ control.length then control
  else control ++ [.release p]

/-- The built frame after the claim of a point has been lost: a CLAIM of the point that was built is withdrawn (R33). -/
def lostFrame (r : PointRecord) (p : PointId) (frame : Option BuiltFrame) : Option BuiltFrame :=
  if r.phase = some .sending then shedWork (Body.isClaimOf p) frame else frame

theorem State.loseClaimDetached_claiming {s : State} {p : PointId} (h : (s.pt p).state = .claiming) :
    s.loseClaimDetached p = { s.setPt p ((s.pt p).vacated none) with
      claimingCount := s.claimingCount - 1
      tx := { s.tx with
        control := lostControl (s.pt p) p s.tx.control
        frame := lostFrame (s.pt p) p s.tx.frame }
      events := s.events.offer (.claimLost p .detached none) } := by
  simp only [State.loseClaimDetached, lostControl, lostFrame]
  rw [if_pos h]
  by_cases hr : (s.pt p).phase = some .requested
  · rw [if_pos hr, if_pos hr, State.withdrawClaim_requested hr, if_neg (by simp [hr])]
    rfl
  · rw [if_neg hr, if_neg hr, State.requestRelease_fst]
    by_cases hs : (s.pt p).phase = some .sending
    · rw [State.withdrawClaim_sending hs, if_pos hs]
      rfl
    · rw [State.withdrawClaim_sent hr hs, if_neg hs]
      rfl

theorem State.loseClaimDetached_other {s : State} {p : PointId} (h : (s.pt p).state ≠ .claiming) :
    s.loseClaimDetached p = s := by
  simp only [State.loseClaimDetached]
  exact if_neg h

/-- The record of a point after the entry to DETACHED (R39). -/
def PointRecord.unclaimed (r : PointRecord) : PointRecord := if r.state = .claiming then r.vacated none else r

theorem PointRecord.unclaimed_unclaimed (r : PointRecord) : r.unclaimed.unclaimed = r.unclaimed := by
  by_cases h : r.state = .claiming
  · simp [PointRecord.unclaimed, h, PointRecord.vacated]
  · simp [PointRecord.unclaimed, h]

theorem State.pt_loseClaimDetached (s : State) (p q : PointId) :
    (s.loseClaimDetached p).pt q = if q = p then (s.pt q).unclaimed else s.pt q := by
  by_cases h : (s.pt p).state = .claiming
  · have hpt : (s.loseClaimDetached p).pt q = (s.setPt p ((s.pt p).vacated none)).pt q := by
      rw [State.loseClaimDetached_claiming h]
      rfl
    rw [hpt, State.pt_setPt]
    by_cases hq : q = p
    · subst hq
      rw [if_pos rfl, if_pos rfl, PointRecord.unclaimed, if_pos h]
    · rw [if_neg hq, if_neg hq]
  · rw [State.loseClaimDetached_other h]
    split
    · rename_i hq
      rw [hq, PointRecord.unclaimed, if_neg h]
    · rfl

/-! ### The points in turn -/

theorem State.pt_foldl_loseClaimDetached (s : State) (l : List PointId) (q : PointId) :
    (l.foldl (fun t p => t.loseClaimDetached p) s).pt q = if q ∈ l then (s.pt q).unclaimed else s.pt q := by
  induction l generalizing s with
  | nil => rfl
  | cons p l ih =>
    rw [List.foldl_cons, ih, State.pt_loseClaimDetached]
    by_cases hq : q = p <;> by_cases hl : q ∈ l <;> simp [hq, hl, PointRecord.unclaimed_unclaimed]

/-- Points visited in turn, each once: `table` holds their records as they stand before, and `lost` the claims among
them. -/
theorem State.foldl_loseClaimDetached (table : PointId → PointRecord) {l : List PointId} (hl : l.Nodup) (s : State)
    (ht : ∀ p ∈ l, s.pt p = table p) :
    let lost := l.filter fun p => (table p).state = .claiming
    let t := l.foldl (fun t p => t.loseClaimDetached p) s
    t = { s with
      points := t.points
      claimingCount := s.claimingCount - lost.length
      tx := { s.tx with
        control := lost.foldl (fun control p => lostControl (table p) p control) s.tx.control
        frame := lost.foldl (fun frame p => lostFrame (table p) p frame) s.tx.frame }
      events := (lost.map fun p => Event.claimLost p .detached none).foldl EventQueue.offer s.events } := by
  induction l generalizing s with
  | nil => intro lost t; rfl
  | cons p l ih =>
    intro lost t
    obtain ⟨hp, hl⟩ := List.nodup_cons.mp hl
    have hhead : s.pt p = table p := ht p (List.mem_cons_self ..)
    have htail : ∀ q ∈ l, (s.loseClaimDetached p).pt q = table q := fun q hq => by
      have hqp : q ≠ p := fun e => hp (e ▸ hq)
      rw [State.pt_loseClaimDetached, if_neg hqp, ht q (List.mem_cons_of_mem _ hq)]
    have ih := ih hl (s.loseClaimDetached p) htail
    have hcons : t = l.foldl (fun t p => t.loseClaimDetached p) (s.loseClaimDetached p) := rfl
    by_cases hc : (table p).state = .claiming
    · have hlost : lost = p :: l.filter fun p => (table p).state = .claiming :=
        List.filter_cons_of_pos (by simpa using hc)
      rw [hcons, hlost]
      refine ih.trans ?_
      generalize (l.foldl (fun t p => t.loseClaimDetached p) (s.loseClaimDetached p)).points = points
      rw [State.loseClaimDetached_claiming (hhead ▸ hc), hhead, List.length_cons, Nat.add_comm, Nat.sub_add_eq]
      rfl
    · have hlost : lost = l.filter fun p => (table p).state = .claiming :=
        List.filter_cons_of_neg (by simpa using hc)
      rw [State.loseClaimDetached_other (hhead ▸ hc)] at ih hcons
      rw [hcons, hlost]
      exact ih

/-! ### The built frame -/

theorem BuiltFrame.shedWork_shed (b : BuiltFrame) (named : Body → Bool) : shedWork named b.shed = b.shed := by
  cases hp : b.place <;> simp [BuiltFrame.shed, shedWork, hp]

theorem lostFrame_shed (r : PointRecord) (p : PointId) (b : BuiltFrame) : lostFrame r p b.shed = b.shed := by
  unfold lostFrame
  split
  · exact b.shedWork_shed _
  · rfl

/-- A built frame after the loss of several claims: it is shed when it is the CLAIM of one of them in SENDING. -/
theorem foldl_lostFrame (table : PointId → PointRecord) (l : List PointId) (b : BuiltFrame) :
    l.foldl (fun frame p => lostFrame (table p) p frame) (some b) =
      if ∃ p ∈ l, b.frame.body = .claim p ∧ (table p).phase = some .sending then b.shed else some b := by
  induction l with
  | nil => simp
  | cons p l ih =>
    rw [List.foldl_cons]
    by_cases hp : b.frame.body = .claim p ∧ (table p).phase = some .sending
    · have hone : lostFrame (table p) p (some b) = b.shed := by
        simp [lostFrame, shedWork, Body.isClaimOf_eq, hp]
      rw [hone, List.foldl_fixed' (fun q => lostFrame_shed (table q) q b), if_pos ⟨p, List.mem_cons_self .., hp⟩]
    · have hone : lostFrame (table p) p (some b) = some b := by
        by_cases hs : (table p).phase = some .sending <;> simp_all [lostFrame, shedWork, Body.isClaimOf_eq]
      rw [hone, ih]
      exact if_congr (by simp only [List.exists_mem_cons_iff, hp, false_or]) rfl rfl

theorem foldl_lostFrame_none (table : PointId → PointRecord) (l : List PointId) :
    l.foldl (fun frame p => lostFrame (table p) p frame) none = none :=
  List.foldl_fixed' (fun q => by unfold lostFrame; split <;> rfl) l

/-! ### The entry to DETACHED -/

theorem allPoints_nodup : allPoints.Nodup := List.nodup_finRange 256

theorem mem_allPoints (p : PointId) : p ∈ allPoints := List.mem_finRange p

/-- The station has turned DETACHED; its claims and lists stand as before. -/
def State.turnDetached (s : State) (cause : Cause) : State := { s with
  ctrl := { s.ctrl with state := .detached, cause := some cause, leaseTimer := none }
  events := s.events.offer (.stationState .detached (some cause)) }

/-- The entry to DETACHED visits the points in ascending order, and then empties the publish list (R199). -/
theorem State.enterDetached_visits (s : State) (cause : Cause) :
    s.enterDetached cause =
      let t := allPoints.foldl (fun t p => t.loseClaimDetached p) (s.turnDetached cause)
      { t with tx := { t.tx with publish := [] } } := by
  unfold State.enterDetached State.sweep
  generalize allPoints = l
  rfl

/-- The entry to DETACHED, field by field (R199). -/
theorem State.enterDetached_eq (s : State) (cause : Cause) :
    let lost := allPoints.filter fun p => (s.pt p).state = .claiming
    s.enterDetached cause = { s with
      ctrl := { s.ctrl with state := .detached, cause := some cause, leaseTimer := none }
      points := (s.enterDetached cause).points
      claimingCount := s.claimingCount - lost.length
      tx := { s.tx with
        control := lost.foldl (fun control p => lostControl (s.pt p) p control) s.tx.control
        publish := []
        frame := lost.foldl (fun frame p => lostFrame (s.pt p) p frame) s.tx.frame }
      events := (lost.map fun p => Event.claimLost p .detached none).foldl EventQueue.offer
        (s.events.offer (.stationState .detached (some cause))) } := by
  intro lost
  have hvisits := State.foldl_loseClaimDetached s.pt allPoints_nodup (s.turnDetached cause) (fun _ _ => rfl)
  rw [State.enterDetached_visits]
  generalize allPoints.foldl (fun t p => t.loseClaimDetached p) (s.turnDetached cause) = t at hvisits ⊢
  rw [hvisits]
  rfl

theorem State.pt_enterDetached (s : State) (cause : Cause) (p : PointId) :
    (s.enterDetached cause).pt p = (s.pt p).unclaimed := by
  have hpt (t : State) : State.pt { t with tx := { t.tx with publish := [] } } p = t.pt p := rfl
  rw [State.enterDetached_visits, hpt, State.pt_foldl_loseClaimDetached, if_pos (mem_allPoints p)]
  rfl

/-! ### The station timers -/

theorem exec_listenTimerExpiry (s : State) : exec .listenTimerExpiry s = .next s.listenExpires := rfl
theorem exec_presenceTimerExpiry (s : State) : exec .presenceTimerExpiry s = .next s.presenceExpires := rfl
theorem exec_leaseExpiry (s : State) : exec .leaseExpiry s = .next s.leaseExpires := rfl

/-- A PRESENCE request, by what waits (R113). -/
theorem State.requestPresence_eq (s : State) :
    s.requestPresence =
      if Request.presence ∈ s.tx.control then s
      else if s.tx.control.length < 16 then { s with tx := { s.tx with control := s.tx.control ++ [.presence] } }
      else s.countDropped .presence none := by
  unfold State.requestPresence
  split
  · rfl
  · rename_i hm
    by_cases hl : s.tx.control.length < 16
    · rw [if_neg (s.tx.not_full_iff.mpr hl), if_pos hl, Scheduler.append, if_neg hm]
    · rw [if_pos (s.tx.full_iff.mpr (Nat.le_of_not_lt hl)), if_neg hl]

/-- Settles O49: a timer below its limit guards each expiry; the entry to DETACHED is `State.enterDetached_eq`, with the
built frame by `foldl_lostFrame`. -/
theorem stationTimersExpire : Obligations.StationTimersExpire := by
  unfold Obligations.StationTimersExpire
  intro s up due
  have hdue (timer : Option Nat) (limit : Nat) : timerReached timer limit = true ↔ due timer limit :=
    timerReached_iff timer limit
  rw [exec_listenTimerExpiry, exec_presenceTimerExpiry, exec_leaseExpiry]
  refine ⟨fun ha hd => ?_, fun ha hd => ?_, fun ha hd => ?_, fun hd => ?_, fun hd => ?_, fun hd => ?_, fun cause => ?_⟩
  · rw [State.listenExpires, if_pos ⟨ha, (hdue _ _).mpr hd⟩]
    rfl
  · intro t
    rw [State.presenceExpires, if_pos ⟨ha, (hdue _ _).mpr hd⟩, State.requestPresence_eq]
    refine ⟨fun hm => ?_, fun hm hl => ?_, fun hm hl => ?_⟩
    · exact congrArg _ (if_pos hm)
    · exact congrArg _ ((if_neg hm).trans (if_pos hl))
    · exact congrArg _ ((if_neg hm).trans (if_neg (Nat.not_lt_of_le hl)))
  · rw [State.leaseExpires, if_pos ⟨ha, (hdue _ _).mpr hd⟩]
  · rw [State.listenExpires, if_neg fun h => hd ((hdue _ _).mp h.2)]
  · rw [State.presenceExpires, if_neg fun h => hd ((hdue _ _).mp h.2)]
  · rw [State.leaseExpires, if_neg fun h => hd ((hdue _ _).mp h.2)]
  · intro lost t
    have ht := s.enterDetached_eq cause
    have hframe : t.tx.frame = lost.foldl (fun frame p => lostFrame (s.pt p) p frame) s.tx.frame :=
      congrArg (fun u : State => u.tx.frame) ht
    refine ⟨?_, s.pt_enterDetached cause, ?_⟩
    · rw [hframe]
      exact ht
    · rw [hframe]
      cases hf : s.tx.frame with
      | none => exact foldl_lostFrame_none _ _
      | some b =>
        rw [foldl_lostFrame]
        have hmem (p : PointId) : p ∈ lost ↔ (s.pt p).state = .claiming := by simp [lost]
        cases hb : b.frame.body <;> cases hp : b.place <;> simp [hmem, BuiltFrame.shed, hb, hp]

end Sys2Proof.Machine
end

section
/-! SUPPORT. Roster notifications at the table, and the silence of a peer (O38, O50). -/

namespace Sys2Proof.Machine

/-! ### Telling, and writing a record back -/

theorem State.telling_subscribed {s : State} {p : PointId} (h : (s.pt p).subscribed = true) (news : List Event) :
    s.telling p news = { s with events := news.foldl EventQueue.offer s.events } :=
  if_pos h

theorem State.telling_unsubscribed {s : State} {p : PointId} (h : ¬ (s.pt p).subscribed = true) (news : List Event) :
    s.telling p news = s :=
  if_neg h

/-- Telling writes the Event Queue alone. -/
theorem State.telling_eq (s : State) (p : PointId) (news : List Event) :
    s.telling p news = { s with
      events := if (s.pt p).subscribed then news.foldl EventQueue.offer s.events else s.events } := by
  unfold State.telling
  split <;> rfl

theorem State.telling_telling (s : State) (p : PointId) (first more : List Event) :
    (s.telling p first).telling p more = s.telling p (first ++ more) := by
  by_cases h : (s.pt p).subscribed = true
  · have hs : (State.pt { s with events := first.foldl EventQueue.offer s.events } p).subscribed = true := h
    rw [State.telling_subscribed h, State.telling_subscribed hs, State.telling_subscribed h, List.foldl_append]
  · rw [State.telling_unsubscribed h, State.telling_unsubscribed h, State.telling_unsubscribed h]

/-- Writing a record back as it stands changes nothing. -/
@[simp] theorem State.setPt_pt (s : State) (p : PointId) : s.setPt p (s.pt p) = s := by
  simp [State.setPt, State.pt]

/-- Writing a record back with the state it has changes nothing. -/
theorem State.setPt_state {s : State} {p : PointId} {st : PointState} (h : (s.pt p).state = st) :
    s.setPt p { s.pt p with state := st } = s := by
  subst h
  exact s.setPt_pt p

/-! ### One visit to a point -/

/-- A visit to one point, as a sweep makes it: its record changes by a function of the record alone, and news about it is
told when the point is subscribed (R91, R206). -/
def State.visit (change : PointRecord → PointRecord) (news : PointId → PointRecord → List Event) (p : PointId)
    (s : State) : State :=
  (s.setPt p (change (s.pt p))).telling p (news p (s.pt p))

section
variable {change : PointRecord → PointRecord} {news : PointId → PointRecord → List Event}
  (hsub : ∀ r, (change r).subscribed = r.subscribed)
include hsub

theorem State.visit_eq (s : State) (p : PointId) :
    s.visit change news p = { s.setPt p (change (s.pt p)) with
      events := if (s.pt p).subscribed then (news p (s.pt p)).foldl EventQueue.offer s.events else s.events } := by
  rw [State.visit, State.telling_eq, State.pt_setPt_same, hsub]
  rfl

theorem State.pt_visit (s : State) (p q : PointId) :
    (s.visit change news p).pt q = if q = p then change (s.pt p) else s.pt q := by
  rw [State.visit_eq hsub, ← State.pt_setPt]
  rfl

/-! ### A sweep of visits -/

theorem State.sweep_visit_frame (s : State) :
    let t := s.sweep (State.visit change news)
    t = { s with points := t.points, events := t.events } := by
  refine State.sweep_induction (P := fun t => t = { s with points := t.points, events := t.events }) rfl
    fun t p ht => ?_
  rw [State.visit_eq hsub, ht]
  rfl

/-- Points visited in turn, each once: `table` holds their records as they stand before. -/
theorem State.foldl_visit (table : PointId → PointRecord) {l : List PointId} (hl : l.Nodup) (s : State)
    (ht : ∀ p ∈ l, s.pt p = table p) :
    let t := l.foldl (fun t p => State.visit change news p t) s
    (∀ q, t.pt q = if q ∈ l then change (table q) else s.pt q) ∧
    t.events = (l.filter fun p => (table p).subscribed).foldl
      (fun e p => (news p (table p)).foldl EventQueue.offer e) s.events := by
  induction l generalizing s with
  | nil => exact ⟨fun _ => rfl, rfl⟩
  | cons p l ih =>
    obtain ⟨hp, hl⟩ := List.nodup_cons.mp hl
    have hhead : s.pt p = table p := ht p (List.mem_cons_self ..)
    have htail : ∀ q ∈ l, (s.visit change news p).pt q = table q := fun q hq => by
      have hqp : q ≠ p := fun e => hp (e ▸ hq)
      rw [State.pt_visit hsub, if_neg hqp, ht q (List.mem_cons_of_mem _ hq)]
    obtain ⟨hpt, hev⟩ := ih hl (s.visit change news p) htail
    refine ⟨fun q => (hpt q).trans ?_, hev.trans ?_⟩
    · rw [State.pt_visit hsub, hhead]
      by_cases hq : q = p
      · subst hq
        rw [if_neg hp, if_pos rfl, if_pos (List.mem_cons_self ..)]
      · simp only [List.mem_cons, hq, false_or, if_false]
    · rw [State.visit_eq hsub, hhead]
      by_cases h : (table p).subscribed = true
      · rw [if_pos h, List.filter_cons, if_pos h, List.foldl_cons]
      · rw [if_neg h, List.filter_cons, if_neg h]

/-- A sweep of visits changes every record, each once, and posts the news of the subscribed points in ascending order. -/
theorem State.sweep_visit (s : State) :
    let t := s.sweep (State.visit change news)
    t = { s with points := t.points, events := t.events } ∧ (∀ p, t.pt p = change (s.pt p)) ∧
    t.events = (allPoints.filter fun p => (s.pt p).subscribed).foldl
      (fun e p => (news p (s.pt p)).foldl EventQueue.offer e) s.events := by
  obtain ⟨hpt, hev⟩ := State.foldl_visit (news := news) hsub s.pt allPoints_nodup s fun _ _ => rfl
  exact ⟨s.sweep_visit_frame hsub, fun p => (hpt p).trans (if_pos (mem_allPoints p)), hev⟩

end

/-! ### What a notification does to one record -/

/-- The record after SILENT or DETACHED of `x` (R92, R93). -/
def PointRecord.markedDown (x : Addr) (r : PointRecord) : PointRecord :=
  if (r.state = .mirror ∨ r.state = .disputed) ∧ r.owner = some x then r.toStale
  else if r.state = .disputed ∧ r.contender = some x then r.dropContender
  else r

/-- The news of SILENT or DETACHED of `x`. -/
def downNews (x : Addr) (p : PointId) (r : PointRecord) : List Event :=
  if (r.state = .mirror ∨ r.state = .disputed) ∧ r.owner = some x then [.pointStale p x] else []

/-- The record after GONE of `x` (R94). -/
def PointRecord.forgotten (x : Addr) (r : PointRecord) : PointRecord :=
  if (r.state = .mirror ∨ r.state = .stale) ∧ r.owner = some x then r.vacated (otherClaimant r.claimant x)
  else if r.state = .disputed ∧ r.owner = some x ∧ r.contender.isSome = true then
    r.mirrored (r.contender.getD x) none none
  else if r.state = .disputed ∧ r.owner ≠ some x ∧ r.contender = some x then r.dropContender
  else if r.state = .vacant ∨ r.state = .stale then { r with claimant := otherClaimant r.claimant x }
  else r

/-- The news of GONE of `x`. -/
def goneNews (x : Addr) (p : PointId) (r : PointRecord) : List Event :=
  if (r.state = .mirror ∨ r.state = .stale) ∧ r.owner = some x then [.ownerChanged p (some x) none]
  else if r.state = .disputed ∧ r.owner = some x ∧ r.contender.isSome = true then
    [.ownerChanged p (some x) r.contender]
  else []

/-- The record after a fresh start of `x` (R95). -/
def PointRecord.afterRestart (x : Addr) (r : PointRecord) : PointRecord :=
  if (r.state = .mirror ∨ r.state = .stale ∨ r.state = .disputed) ∧ r.owner = some x then r.vacated r.claimant
  else if r.state = .disputed ∧ r.contender = some x then r.dropContender
  else r

/-- The news of a fresh start of `x`. -/
def restartNews (x : Addr) (p : PointId) (r : PointRecord) : List Event :=
  if (r.state = .mirror ∨ r.state = .stale ∨ r.state = .disputed) ∧ r.owner = some x then
    [.ownerChanged p (some x) none]
  else []

theorem PointRecord.markedDown_subscribed (x : Addr) (r : PointRecord) :
    (r.markedDown x).subscribed = r.subscribed := by
  unfold PointRecord.markedDown
  split_ifs <;> rfl

theorem PointRecord.forgotten_subscribed (x : Addr) (r : PointRecord) :
    (r.forgotten x).subscribed = r.subscribed := by
  unfold PointRecord.forgotten
  split_ifs <;> rfl

theorem PointRecord.afterRestart_subscribed (x : Addr) (r : PointRecord) :
    (r.afterRestart x).subscribed = r.subscribed := by
  unfold PointRecord.afterRestart
  split_ifs <;> rfl

/-! ### Notifications are visits -/

theorem State.markDown_eq_visit (x : Addr) : State.markDown x = State.visit (·.markedDown x) (downNews x) := by
  funext p s
  simp only [State.markDown, State.visit, PointRecord.markedDown, downNews]
  split_ifs
  · rfl
  · exact (State.telling_nil _ _).symm
  · rw [State.setPt_pt, State.telling_nil]

theorem State.restarted_eq_visit (x : Addr) : State.restarted x = State.visit (·.afterRestart x) (restartNews x) := by
  funext p s
  simp only [State.restarted, State.visit, PointRecord.afterRestart, restartNews]
  split_ifs
  · rfl
  · exact (State.telling_nil _ _).symm
  · rw [State.setPt_pt, State.telling_nil]

theorem State.forget_eq_visit (x : Addr) : State.forget x = State.visit (·.forgotten x) (goneNews x) := by
  funext p s
  simp only [State.forget, State.visit, PointRecord.forgotten, goneNews]
  cases hs : (s.pt p).state with
  | vacant =>
    by_cases hc : (s.pt p).claimant = some x
    · simp [hc, otherClaimant]
    · simp [hc, otherClaimant, State.setPt_state hs]
  | claiming => simp
  | held => simp
  | mirror =>
    by_cases ho : (s.pt p).owner = some x
    · simp [ho, State.ownerLeaves_eq]
    · simp [ho]
  | stale =>
    by_cases ho : (s.pt p).owner = some x
    · simp [ho, State.ownerLeaves_eq]
    · by_cases hc : (s.pt p).claimant = some x
      · simp [ho, hc, otherClaimant]
      · simp [ho, hc, otherClaimant, State.setPt_state hs]
  | disputed =>
    by_cases ho : (s.pt p).owner = some x
    · cases hk : (s.pt p).contender with
      | none => simp [ho, hk, State.promote]
      | some y => simp [ho, hk, State.promote_eq]
    · by_cases hk : (s.pt p).contender = some x
      · simp [ho, hk, State.dropContender]
      · simp [ho, hk]

/-! ### The notifications at the table -/

/-- Settles O38: each notification is a sweep of visits, and `State.sweep_visit` says what such a sweep does. -/
theorem notificationsSweepTheTable : Obligations.NotificationsSweepTheTable := by
  unfold Obligations.NotificationsSweepTheTable
  intro s x toStale toMirror others swept
  rw [State.markDown_eq_visit, State.forget_eq_visit, State.restarted_eq_visit]
  exact ⟨s.sweep_visit (PointRecord.markedDown_subscribed x), s.sweep_visit (PointRecord.forgotten_subscribed x),
    s.sweep_visit (PointRecord.afterRestart_subscribed x)⟩

/-! ### Silence -/

theorem exec_silenceTimer2P (s : State) (x : Addr) : exec (.silenceTimer2P x) s = .next (s.silence2P x) := rfl
theorem exec_silenceTimer5P (s : State) (x : Addr) : exec (.silenceTimer5P x) s = .next (s.silence5P x) := rfl

theorem State.mirrorTimersRun_iff (s : State) :
    s.mirrorTimersRun = true ↔
      s.station = .listening ∨ s.station = .active ∨ s.station = .detached ∨ s.station = .leaving := by
  simp [State.mirrorTimersRun, State.takesFrames, or_assoc]

theorem State.sweep_forget_rx (x : Addr) (s : State) : (s.sweep (State.forget x)).rx = s.rx := by
  refine State.sweep_induction (P := fun t => t.rx = s.rx) rfl fun t p ht => ?_
  rw [State.forget_eq_visit, State.visit_eq (PointRecord.forgotten_subscribed x)]
  exact ht

/-- What is being applied after its source has gone (R143). -/
theorem Receiver.sourceGone_eq (r : Receiver) (x : Addr) :
    r.sourceGone x = { r with applying := r.applying.bind fun a =>
      if a.frame.source = x ∧ FrameItem.roster ∉ a.items then none else some a } := by
  obtain ⟨fifo, applying⟩ := r
  cases applying with
  | none => rfl
  | some a =>
    simp only [Receiver.sourceGone, Option.bind_some]
    split <;> rfl

/-- Settles O50: below its limit a silence time guards both expiries; past it each posts, sweeps, and at 5P the rest of the
frame being applied is discarded by `Receiver.sourceGone_eq`. -/
theorem silenceMakesSilentThenGone : Obligations.SilenceMakesSilentThenGone := by
  unfold Obligations.SilenceMakesSilentThenGone
  intro s x ms hst hms
  have hrun : s.mirrorTimersRun = true := s.mirrorTimersRun_iff.mpr hst
  have hreached (limit : Nat) : timerReached (s.peer x).silence limit = true ↔ limit ≤ ms := by
    simp [hms]
  refine ⟨fun hlt => ?_, fun hlt => ?_, fun hp hle => ?_, fun hp hle => ?_⟩
  · rw [exec_silenceTimer2P, State.silence2P, if_neg fun h => Nat.not_le_of_lt hlt ((hreached _).mp h.2.2)]
  · rw [exec_silenceTimer5P, State.silence5P, if_neg fun h => Nat.not_le_of_lt hlt ((hreached _).mp h.2.2)]
  · rw [exec_silenceTimer2P, State.silence2P, if_pos ⟨hrun, hp, (hreached _).mpr hle⟩]
    rfl
  · intro t
    have hgone : s.silence5P x = { t with rx := t.rx.sourceGone x } :=
      if_pos ⟨hrun, hp, (hreached _).mpr hle⟩
    have hrx : t.rx = s.rx := State.sweep_forget_rx ..
    rw [exec_silenceTimer5P, hgone, hrx, Receiver.sourceGone_eq]
    cases s.rx.applying <;> rfl

end Sys2Proof.Machine
end

section
/-! SUPPORT. Another station acts as holder of a point that is owned (O44). -/

namespace Sys2Proof.Machine

/-- Another station than the owner acts as holder: the contender restarts its timer, and any other station but the
claimant of a STALE point contests the point (R83 to R88). -/
theorem State.holderActs_other {s : State} {p : PointId} {x y : Addr}
    (hs : (s.pt p).state = .mirror ∨ (s.pt p).state = .stale ∨ (s.pt p).state = .disputed)
    (ho : (s.pt p).owner = some x) (hxy : x ≠ y) (hc : ¬ ((s.pt p).state = .stale ∧ (s.pt p).claimant = some y))
    (c : Carried) (loss : ClaimLoss) (fromOwner : State → State) :
    s.holderActs p y c loss fromOwner =
      if (s.pt p).state = .disputed ∧ (s.pt p).contender = some y then
        s.setPt p { s.pt p with contenderTimer := some 0 }
      else s.contest p x y c := by
  rcases hs with hs | hs | hs
  · simp [State.holderActs, hs, ho, hxy]
  · have hclaimant : (s.pt p).claimant ≠ some y := fun h => hc ⟨hs, h⟩
    simp [State.holderActs, hs, ho, hxy, hclaimant]
  · simp [State.holderActs, hs, ho, hxy]

/-- The lower station becomes owner, and its news are posted in turn (R84, R85). -/
theorem State.contest_lower {x y : Addr} (h : y < x) (s : State) (p : PointId) (c : Carried) :
    s.contest p x y c =
      (s.setPt p { (s.pt p).mirrored y (some c.length) c.value with
        state := .disputed, contender := some x, contenderTimer := some 0 }).telling p
        (.ownerChanged p (some x) (some y) :: .disputeSeen p y x :: changedBy p c.value) := by
  simp only [State.contest, PointRecord.contested, if_pos h, PointRecord.mirrorOf_eq_mirrored,
    State.offerPoint_eq_telling, State.postCarried_eq_telling, State.telling_telling, List.cons_append,
    List.nil_append]

/-- The higher station becomes contender (R83, R85, R88). -/
theorem State.contest_higher {x y : Addr} (h : x < y) (s : State) (p : PointId) (c : Carried) :
    s.contest p x y c =
      (s.setPt p { s.pt p with
        state := .disputed, claimant := none, contender := some y, contenderTimer := some 0
        staleTimer := if (s.pt p).state = .stale then some 0 else (s.pt p).staleTimer }).telling p
        [.disputeSeen p x y] := by
  simp only [State.contest, PointRecord.contested, if_neg (lt_asymm h), State.offerPoint_eq_telling]

/-- Settles O44: `State.holderActs_other`, with the contest by address. -/
theorem disputeIsEntered : Obligations.DisputeIsEntered := by
  unfold Obligations.DisputeIsEntered
  intro s f item rest p k value x ht hh hs ho hxy hc t y r
  obtain ⟨fromOwner, he⟩ := exec_row_of_holds ht hh
  have hp : t.pt p = r := State.pt_itemTaken ..
  rw [he, State.holderActs_other (hp ▸ hs) (hp ▸ ho) hxy (hp ▸ hc), hp]
  refine ⟨fun hd hk => ?_, fun hn hlt => ?_, fun hn hlt => ?_⟩
  · rw [if_pos ⟨hd, hk⟩]
  · rw [if_neg hn, State.contest_lower hlt, hp]
  · rw [if_neg hn, State.contest_higher hlt, hp]

end Sys2Proof.Machine
end

section
/-! SUPPORT. Slots, and items over the whole table, leave the Station Controller as it is. -/

namespace Sys2Proof.Machine

/-! ### Slots leave the Station Controller as it is -/

@[simp] theorem State.claimBuilt_ctrl (s : State) (p : PointId) : (s.claimBuilt p).ctrl = s.ctrl := by
  simp only [State.claimBuilt]
  split <;> rfl

@[simp] theorem State.sendRequest_ctrl (s : State) (r : Request) (slot : Nat) :
    (s.sendRequest r slot).ctrl = s.ctrl := by
  cases r with
  | claim p => exact State.claimBuilt_ctrl _ p
  | _ => rfl

@[simp] theorem State.freshSlot_ctrl (s : State) (slot : Nat) : (s.freshSlot slot).ctrl = s.ctrl := by
  unfold State.freshSlot
  split
  · split <;> rfl
  · rfl

@[simp] theorem State.plainSlot_ctrl (s : State) (slot : Nat) : (s.plainSlot slot).ctrl = s.ctrl := by
  unfold State.plainSlot
  split
  · rfl
  · split
    · exact s.sendRequest_ctrl _ slot
    · split <;> rfl

@[simp] theorem State.leavingSlot_ctrl (s : State) (slot : Nat) : (s.leavingSlot slot).ctrl = s.ctrl := by
  unfold State.leavingSlot
  split
  · rfl
  · split
    · exact s.sendRequest_ctrl _ slot
    · rfl

theorem State.rankedOffer_ctrl (slot : Nat) (s : State) : (State.rankedOffer slot s).ctrl = s.ctrl := by
  have hsession : (if s.ctrl.freshStart then s.freshSlot slot else s.plainSlot slot).ctrl = s.ctrl := by
    split <;> simp
  unfold State.rankedOffer
  cases s.station with
  | active | detached => exact hsession
  | leaving => exact s.leavingSlot_ctrl slot
  | offline | listening | clashed => rfl

/-- An offered urgent slot leaves the state as it stands, or puts a frame in flight in slot 0 (R161). -/
theorem State.urgentOffer_cases (s : State) :
    s.urgentOffer = s ∨
    (s.urgentOffer.line.state = .sending ∧ s.urgentOffer.ctrl = s.ctrl ∧ s.urgentOffer.events = s.events ∧
      ∃ b, s.urgentOffer.tx.frame = some b ∧ b.place = .inFlight 0) := by
  have hchoice : s.urgentOffer = s ∨ s.urgentOffer = s.urgentChoice := by
    unfold State.urgentOffer
    cases s.station with
    | active | detached => exact ite_eq_or_eq ..
    | offline | listening | leaving | clashed => exact .inl rfl
  rcases hchoice with h | h
  · exact .inl h
  · rw [h]
    exact s.urgentChoice_cases

/-- An urgent slot leaves all but the ladder as it stands, or puts a frame in flight in slot 0; the station's own state and
the events are the same either way. -/
theorem State.urgentSlot_cases (s : State) :
    (s.urgentSlot = { s with line := { s.line with ladder := s.urgentSlot.line.ladder } }) ∨
    (s.urgentSlot.line.state = .sending ∧ s.urgentSlot.ctrl = s.ctrl ∧ s.urgentSlot.events = s.events ∧
      ∃ b, s.urgentSlot.tx.frame = some b ∧ b.place = .inFlight 0) := by
  unfold State.urgentSlot State.slotBegins
  split
  · dsimp only
    split
    · rename_i l _ _ _
      rcases State.urgentOffer_cases { s with line := { s.line with ladder := some (l.reach 0) } } with h | h
      · rw [h]
        exact .inl rfl
      · exact .inr h
    · exact .inl rfl
  · exact .inl rfl

@[simp] theorem State.urgentSlot_ctrl (s : State) : s.urgentSlot.ctrl = s.ctrl := by
  rcases s.urgentSlot_cases with h | ⟨-, h, -⟩
  · rw [h]
  · exact h

@[simp] theorem State.urgentSlot_events (s : State) : s.urgentSlot.events = s.events := by
  rcases s.urgentSlot_cases with h | ⟨-, -, h, -⟩
  · rw [h]
  · exact h

@[simp] theorem State.rankedSlot_ctrl (s : State) : s.rankedSlot.ctrl = s.ctrl := by
  unfold State.rankedSlot State.slotBegins
  split
  · split
    · exact State.rankedOffer_ctrl _ _
    · rfl
  · rfl

/-! ### Items over the table leave the Station Controller as it is -/

theorem State.sweep_ctrl {f : PointId → State → State} (hf : ∀ p t, (f p t).ctrl = t.ctrl) (s : State) :
    (s.sweep f).ctrl = s.ctrl :=
  State.sweep_induction (P := fun t => t.ctrl = s.ctrl) rfl fun t p ht => (hf p t).trans ht

@[simp] theorem State.sweep_markDown_ctrl (x : Addr) (s : State) : (s.sweep (State.markDown x)).ctrl = s.ctrl := by
  rw [State.markDown_eq_visit, s.sweep_visit_frame (PointRecord.markedDown_subscribed x)]

@[simp] theorem State.sweep_restarted_ctrl (x : Addr) (s : State) : (s.sweep (State.restarted x)).ctrl = s.ctrl := by
  rw [State.restarted_eq_visit, s.sweep_visit_frame (PointRecord.afterRestart_subscribed x)]

@[simp] theorem State.sweep_forget_ctrl (x : Addr) (s : State) : (s.sweep (State.forget x)).ctrl = s.ctrl := by
  rw [State.forget_eq_visit, s.sweep_visit_frame (PointRecord.forgotten_subscribed x)]

theorem State.foldl_ctrl {α : Type} {f : State → α → State} (hf : ∀ t a, (f t a).ctrl = t.ctrl) (l : List α)
    (s : State) : (l.foldl f s).ctrl = s.ctrl := by
  induction l generalizing s with
  | nil => rfl
  | cons a l ih => exact (ih _).trans (hf s a)

end Sys2Proof.Machine
end

section
/-! SUPPORT. The roster item of a frame (O39). -/

namespace Sys2Proof.Machine

theorem exec_rosterFrameItem_taking {s : State} {f : Frame} {rest : List FrameItem} (h : s.taking f .roster rest) :
    exec .rosterFrameItem s = .next ((s.itemTaken f rest).rosterItem f) :=
  congrArg Host.Outcome.next (State.takeItem_taking h (effect := fun t => t.rosterItem f) rfl)

theorem State.hasPeer_iff (s : State) (x : Addr) : s.hasPeer x = true ↔ x.val < s.n.toNat ∧ x ≠ s.own := by
  simp [State.hasPeer]

/-! ### Notifications leave the roster as it is -/

@[simp] theorem State.sweep_markDown_roster (x : Addr) (s : State) :
    (s.sweep (State.markDown x)).roster = s.roster := by
  rw [State.markDown_eq_visit, s.sweep_visit_frame (PointRecord.markedDown_subscribed x)]

@[simp] theorem State.sweep_restarted_roster (x : Addr) (s : State) :
    (s.sweep (State.restarted x)).roster = s.roster := by
  rw [State.restarted_eq_visit, s.sweep_visit_frame (PointRecord.afterRestart_subscribed x)]

/-! ### What a frame does to an entry -/

/-- The entry of a peer after any valid frame of it (R122, R123). -/
def PeerEntry.heard (e : PeerEntry) (seq : Octet) : PeerEntry :=
  match e.state with
  | .absent | .gone => { e with state := .present, lastSeq := some seq, silence := some 0 }
  | .present | .silent =>
      { e with state := .present, missed := e.missedAfter seq, lastSeq := some seq, silence := some 0 }

/-- The Event Queue after any valid frame of a peer (R122). -/
def PeerEntry.heardNews (e : PeerEntry) (x : Addr) (q : EventQueue) : EventQueue :=
  match e.state with
  | .absent | .gone => q.offer (.peerJoined x)
  | .silent => q.offer (.peerReturned x)
  | .present => q

theorem PeerEntry.heard_detached (e : PeerEntry) (seq : Octet) : (e.heard seq).detached = e.detached := by
  unfold PeerEntry.heard
  split <;> rfl

theorem PeerEntry.heard_mismatch (e : PeerEntry) (seq : Octet) : (e.heard seq).mismatch = e.mismatch := by
  unfold PeerEntry.heard
  split <;> rfl

theorem State.heardFrom_eq (s : State) (x : Addr) (seq : Octet) :
    s.heardFrom x seq = { s.setPeer x ((s.peer x).heard seq) with events := (s.peer x).heardNews x s.events } := by
  simp only [State.heardFrom, PeerEntry.heard, PeerEntry.heardNews]
  cases hs : (s.peer x).state <;> simp only [← hs] <;> rfl

@[simp] theorem State.heardFrom_ctrl (s : State) (x : Addr) (seq : Octet) : (s.heardFrom x seq).ctrl = s.ctrl := by
  rw [State.heardFrom_eq]
  rfl

theorem State.peerGone_eq (s : State) (x : Addr) (cause : GoneCause) :
    s.peerGone x cause = State.sweep (State.forget x) { s.setPeer x (s.peer x).goneEntry with
      events := s.events.offer (.peerGone x cause) } := rfl

theorem State.takeFresh_eq (s : State) (x : Addr) (fresh : Bool) :
    s.takeFresh x fresh =
      if fresh = true then State.sweep (State.restarted x) { s with events := s.events.offer (.peerRestarted x) }
      else s := rfl

/-- The detached flag of an entry follows the announced state; both changes are reported (R124). -/
theorem State.takeDetached_eq (s : State) (x : Addr) (st : PresenceState) :
    s.takeDetached x st =
      if st = .detached ∧ (s.peer x).detached = false then
        State.sweep (State.markDown x) { s.setPeer x { s.peer x with detached := true } with
          events := s.events.offer (.peerDetached x) }
      else if st = .active ∧ (s.peer x).detached = true then
        { s.setPeer x { s.peer x with detached := false } with events := s.events.offer (.peerResumed x) }
      else s := by
  unfold State.takeDetached
  dsimp only
  split
  · rename_i hd
    rw [if_pos ⟨rfl, hd⟩]
    rfl
  · rename_i hd
    rw [if_neg (by simp), if_pos ⟨rfl, hd⟩]
    rfl
  · rename_i hd
    rw [if_neg (by simp [hd]), if_neg (by simp)]
  · rename_i hd
    rw [if_neg (by simp), if_neg (by simp [hd])]

@[simp] theorem State.takeFresh_ctrl (s : State) (x : Addr) (fresh : Bool) : (s.takeFresh x fresh).ctrl = s.ctrl := by
  rw [State.takeFresh_eq]
  split
  · rw [State.sweep_restarted_ctrl]
  · rfl

@[simp] theorem State.takeFresh_roster (s : State) (x : Addr) (fresh : Bool) :
    (s.takeFresh x fresh).roster = s.roster := by
  rw [State.takeFresh_eq]
  split
  · rw [State.sweep_restarted_roster]
  · rfl

@[simp] theorem State.takeDetached_ctrl (s : State) (x : Addr) (st : PresenceState) :
    (s.takeDetached x st).ctrl = s.ctrl := by
  rw [State.takeDetached_eq]
  split_ifs
  · rw [State.sweep_markDown_ctrl]
    rfl
  · rfl
  · rfl

/-- The flag as step 2 of R124 leaves it says what the frame announced. -/
theorem State.takeDetached_peer (s : State) (x : Addr) (st : PresenceState) :
    (s.takeDetached x st).peer x = { s.peer x with detached := decide (st = .detached) } := by
  have hset (t : State) (flag : Bool) (ht : t.roster = (s.setPeer x { s.peer x with detached := flag }).roster) :
      t.peer x = { s.peer x with detached := flag } :=
    (State.peer_congr ht x).trans (State.peer_setPeer_same ..)
  rw [State.takeDetached_eq]
  split_ifs with hdown hup
  · rw [hdown.1]
    exact hset _ true (State.sweep_markDown_roster ..)
  · rw [hup.1]
    exact hset _ false rfl
  · have hflag : decide (st = .detached) = (s.peer x).detached := by
      cases st <;> simp_all
    rw [hflag]

theorem State.takeAnnounced_eq (s : State) (x : Addr) (a : Announced) :
    let differs : Bool := decide (a.n ≠ s.n ∨ a.pUnits ≠ s.ctrl.config.pUnits)
    s.takeAnnounced x a = { s.setPeer x { s.peer x with announced := some a, mismatch := differs } with
      events := if differs = true ∧ (s.peer x).mismatch = false then s.events.offer (.peerMismatch x a.n a.pUnits)
        else s.events } := by
  intro differs
  have hdiffers : (a.n ≠ s.n || a.pUnits ≠ s.ctrl.config.pUnits : Bool) = differs := by simp [differs]
  simp only [State.takeAnnounced, hdiffers]
  by_cases h : differs = true ∧ (s.peer x).mismatch = false
  · rw [if_pos (by simp [h]), if_pos h]
    rfl
  · rw [if_neg (by simpa using h), if_neg h]
    rfl

@[simp] theorem State.takeAnnounced_ctrl (s : State) (x : Addr) (a : Announced) :
    (s.takeAnnounced x a).ctrl = s.ctrl := by
  rw [State.takeAnnounced_eq]
  rfl

/-! ### The item by the kind of its frame -/

section
variable {s : State} {f : Frame} (hp : s.hasPeer f.source = true)
include hp

theorem State.rosterItem_presence {st : PresenceState} {fresh : Bool} {held : Nat} {n : SegmentSize} {u : Octet}
    (hb : f.body = .presence st fresh held n u) :
    s.rosterItem f =
      (((s.heardFrom f.source f.sequence).takeFresh f.source fresh).takeDetached f.source st).takeAnnounced f.source
        { held := held, n := n, pUnits := u } := by
  simp only [State.rosterItem, hp, hb, if_true]

theorem State.rosterItem_farewell (hb : f.body = .farewell) :
    s.rosterItem f = (s.heardFrom f.source f.sequence).peerGone f.source .farewell := by
  simp only [State.rosterItem, hp, hb, if_true]

theorem State.rosterItem_other (hpresence : f.body.kind ≠ .presence) (hfarewell : f.body.kind ≠ .farewell) :
    s.rosterItem f = s.heardFrom f.source f.sequence := by
  simp only [State.rosterItem, hp, if_true]
  cases hb : f.body with
  | presence => exact absurd (by rw [hb]; rfl) hpresence
  | farewell => exact absurd (by rw [hb]; rfl) hfarewell
  | _ => rfl

end

/-- Settles O39: the entry is heard, and then the frame's body is taken by `State.rosterItem_presence` and its like. -/
theorem rosterItemKeepsTheRoster : Obligations.RosterItemKeepsTheRoster := by
  unfold Obligations.RosterItemKeepsTheRoster
  intro s f rest ht hn hown x e missed heard t0
  have hheard : heard = e.heard f.sequence := by
    simp only [heard, missed, PeerEntry.heard, PeerEntry.missedAfter]
    cases e.state <;> cases e.lastSeq <;> rfl
  have ht0 : (s.itemTaken f rest).heardFrom x f.sequence = t0 := by
    rw [State.heardFrom_eq, State.peer_itemTaken, ← hheard]
    simp only [t0, PeerEntry.heardNews]
    cases e.state <;> rfl
  have hpeer : (s.itemTaken f rest).hasPeer x = true := (State.hasPeer_iff _ _).mpr ⟨hn, hown⟩
  have hentry : t0.peer x = heard := State.peer_setPeer_same ..
  rw [exec_rosterFrameItem_taking ht]
  refine ⟨fun h => ?_, fun h => ?_, fun st fresh held n u h => ?_⟩
  · have hkind : f.body.kind ≠ .presence ∧ f.body.kind ≠ .farewell := by
      rcases h with ⟨_, h⟩ | ⟨_, h⟩ | ⟨_, _, h⟩ | ⟨_, h⟩ | ⟨_, _, h⟩ <;> simp [h, Body.kind]
    rw [State.rosterItem_other hpeer hkind.1 hkind.2, ht0]
  · rw [State.rosterItem_farewell hpeer h, ht0, State.peerGone_eq, hentry]
    rfl
  · intro t1 t2 differs
    rw [State.rosterItem_presence hpeer h, ht0]
    have ht1 : t0.takeFresh x fresh = t1 := t0.takeFresh_eq x fresh
    have hdetached : heard.detached = e.detached := by rw [hheard, PeerEntry.heard_detached]
    have hmismatch : heard.mismatch = e.mismatch := by rw [hheard, PeerEntry.heard_mismatch]
    have hentry1 : t1.peer x = heard := by
      rw [← ht1, State.peer_congr (t0.takeFresh_roster x fresh), hentry]
    have ht2 : t1.takeDetached x st = t2 := by
      rw [State.takeDetached_eq, hentry1, hdetached]
    have hentry2 : t2.peer x = { heard with detached := decide (st = .detached) } := by
      rw [← ht2, State.takeDetached_peer, hentry1]
    have hctrl : t2.ctrl = s.ctrl := by
      rw [← ht2, State.takeDetached_ctrl, ← ht1, State.takeFresh_ctrl]
      rfl
    rw [ht1, ht2, State.takeAnnounced_eq, hentry2, State.n, hctrl, hmismatch]

end Sys2Proof.Machine
end

section
/-! SUPPORT. Items of a received frame leave the Station Controller as it is (O59). -/

namespace Sys2Proof.Machine

/-- The roster item writes entries, records and events. -/
@[simp] theorem State.rosterItem_ctrl (s : State) (f : Frame) : (s.rosterItem f).ctrl = s.ctrl := by
  unfold State.rosterItem
  split
  · cases f.body with
    | presence => simp
    | farewell => simp [State.peerGone]
    | _ => exact s.heardFrom_ctrl ..
  · rfl

@[simp] theorem State.telling_ctrl (s : State) (p : PointId) (news : List Event) :
    (s.telling p news).ctrl = s.ctrl := by
  rw [State.telling_eq]

@[simp] theorem State.yield_ctrl (s : State) (p : PointId) (y : Addr) (c : Carried) (cause : OwnershipLoss) :
    (s.yield p y c cause).ctrl = s.ctrl := by
  simp [State.yield_eq]

@[simp] theorem State.defend_ctrl (s : State) (p : PointId) : (s.defend p).ctrl = s.ctrl := by
  simp [State.defend]

theorem State.holderActs_ctrl (s : State) (p : PointId) (y : Addr) (c : Carried) (loss : ClaimLoss)
    {fromOwner : State → State} (hf : (fromOwner s).ctrl = s.ctrl) :
    (s.holderActs p y c loss fromOwner).ctrl = s.ctrl := by
  have hnew (old : Option Addr) : (s.newOwner p old y c).ctrl = s.ctrl := by
    simp [State.newOwner, State.postCarried_eq_telling, State.mirrorCarried]
  have hcontest (x : Addr) : (s.contest p x y c).ctrl = s.ctrl := by
    simp only [State.contest]
    split <;> simp [State.postCarried_eq_telling]
  have hchallenge : (s.challenge p y c).ctrl = s.ctrl := by
    unfold State.challenge
    split
    · split <;> simp
    · simp
    all_goals rfl
  simp only [State.holderActs]
  split
  · exact hnew none
  · simp [State.loseClaimTo_eq]
  · exact hchallenge
  all_goals
    split
    · rfl
    · split_ifs
      · exact hf
      · exact hnew _
      · rfl
      · exact hcontest _

@[simp] theorem State.publishRecord_ctrl (s : State) (x : Addr) (r : PublishRecord) :
    (s.publishRecord x r).ctrl = s.ctrl := by
  refine State.holderActs_ctrl _ _ _ _ _ ?_
  simp only [State.ownerPublishes]
  split
  · rfl
  · split
    · simp
    · split_ifs <;> simp

@[simp] theorem State.assertHeard_ctrl (s : State) (x : Addr) (p : PointId) (length : Octet) :
    (s.assertHeard x p length).ctrl = s.ctrl := by
  unfold State.assertHeard
  split
  · refine State.holderActs_ctrl _ _ _ _ _ ?_
    simp only [State.ownerAsserts]
    split <;> rfl
  · rfl

@[simp] theorem State.ownerLeaves_ctrl (s : State) (p : PointId) (x : Addr) (claimant : Option Addr) :
    (s.ownerLeaves p x claimant).ctrl = s.ctrl := by
  simp [State.ownerLeaves]

@[simp] theorem State.claimHeard_ctrl (s : State) (c : Addr) (p : PointId) : (s.claimHeard c p).ctrl = s.ctrl := by
  simp only [State.claimHeard]
  split
  · rfl
  · split <;> rfl
  · split
    · simp
    · rfl
    all_goals rfl
  · split <;> simp
  · split <;> simp
  · split_ifs <;> simp

@[simp] theorem State.releaseHeard_ctrl (s : State) (x : Addr) (p : PointId) : (s.releaseHeard x p).ctrl = s.ctrl := by
  have hpromote : (s.promote p x).ctrl = s.ctrl := by
    simp only [State.promote]
    split <;> simp
  simp only [State.releaseHeard]
  split
  · split <;> simp
  · split_ifs <;> simp
  · split <;> rfl
  · split_ifs <;> simp [hpromote, State.dropContender]
  all_goals rfl

@[simp] theorem State.recallHeard_ctrl (s : State) (points : List PointId) : (s.recallHeard points).ctrl = s.ctrl := by
  unfold State.recallHeard
  split
  · exact State.foldl_ctrl State.appendHeld_ctrl points s
  · rfl

theorem State.takeNextFrame_ctrl (s : State) : s.takeNextFrame.ctrl = s.ctrl := by
  unfold State.takeNextFrame
  split <;> rfl

/-- A row that takes an item leaves the Station Controller as it is where the item's effect does. -/
theorem State.takeItem_ctrl {take : Frame → FrameItem → Option (State → State)}
    (h : ∀ f item effect t, take f item = some effect → (effect t).ctrl = t.ctrl) (s : State) :
    (s.takeItem take).ctrl = s.ctrl := by
  unfold State.takeItem
  split
  · split
    · split
      · rename_i effect he
        split
        · exact h _ _ _ _ he
        · rfl
      · rfl
    · rfl
  · rfl

end Sys2Proof.Machine
end

section
/-! SUPPORT. Every command, and the table of section 5.3 (O59). -/

namespace Sys2Proof.Machine

/-! ### The table of section 5.3 -/

/-- The changes of station state that section 5.3 lists, each with its cause (R105). -/
def stationChanges : List (StationState × StationState × Cause) :=
  [(.offline, .listening, .host), (.listening, .active, .listenDone), (.listening, .offline, .host),
   (.listening, .clashed, .clash), (.active, .detached, .lease), (.active, .detached, .discipline),
   (.active, .leaving, .host), (.active, .clashed, .clash), (.detached, .active, .host), (.detached, .leaving, .host),
   (.detached, .clashed, .clash), (.leaving, .offline, .leaveDone), (.clashed, .offline, .host)]

/-- The Station Controller goes from `c` to `d`: state and cause stay, or the state changes along the table and its cause
is recorded. -/
def Controller.FollowedBy (c d : Controller) : Prop :=
  (d.state = c.state ∧ d.cause = c.cause) ∨ ∃ cause, d.cause = some cause ∧ (c.state, d.state, cause) ∈ stationChanges

theorem Controller.FollowedBy.of_eq {c d : Controller} (h : d = c) : c.FollowedBy d := .inl (by simp [h])

theorem Controller.FollowedBy.refl (c : Controller) : c.FollowedBy c := .inl ⟨rfl, rfl⟩

/-- A change that the table lists. -/
theorem Controller.FollowedBy.change {c d : Controller} {st st' : StationState} {cause : Cause}
    (h : (st, st', cause) ∈ stationChanges) (hc : c.state = st) (hd : d.state = st') (hcause : d.cause = some cause) :
    c.FollowedBy d :=
  .inr ⟨cause, hcause, by rwa [hc, hd]⟩

/-! ### Host commands -/

theorem State.answer_ctrl (s : State) (q : QueuedCommand) (status : Status) (data : List Octet) :
    ((s.recordCondition q status).deliver q status data).ctrl = s.ctrl := by
  unfold State.deliver State.recordCondition
  split <;> split <;> rfl

theorem State.enterDetached_followed {s : State} (h : s.station = .active) {cause : Cause}
    (hc : cause = .lease ∨ cause = .discipline) : s.ctrl.FollowedBy (s.enterDetached cause).ctrl := by
  rw [s.enterDetached_eq cause]
  rcases hc with rfl | rfl
  · exact .change (st := .active) (st' := .detached) (by decide) h rfl rfl
  · exact .change (st := .active) (st' := .detached) (by decide) h rfl rfl

theorem State.violation_followed (s : State) : s.ctrl.FollowedBy s.violation.ctrl := by
  unfold State.violation
  split
  · rename_i h
    exact State.enterDetached_followed h (.inr rfl)
  · exact .refl _

/-- The checks of R175: the station state changes as the item does where the station state admits the command, or by a
discipline violation (R194). -/
theorem State.judge_followed {t : State} {q : QueuedCommand} {item : List Octet → State → Answered}
    (hi : (HostCommand.ofCode q.code).any (·.admittedIn t.station) = true →
      t.ctrl.FollowedBy (item q.params t).state.ctrl) : t.ctrl.FollowedBy (t.judge q item).state.ctrl := by
  have hrefused (c : HostCommand) : (t.notAdmitted c).state.ctrl = t.ctrl := by
    cases c <;> rfl
  simp only [State.judge]
  split
  · exact t.violation_followed
  · cases hq : HostCommand.ofCode q.code with
    | none => exact .refl _
    | some c =>
      rw [hq] at hi
      dsimp only
      split
      · split
        · exact hi ‹_›
        · exact .of_eq (hrefused c)
      · exact .refl _

theorem State.takeCommand_followed {named : Option HostCommand} {item : List Octet → State → Answered}
    (hi : ∀ (params : List Octet) (t : State), named.any (·.admittedIn t.station) = true →
      t.ctrl.FollowedBy (item params t).state.ctrl) (s : State) :
    s.ctrl.FollowedBy (s.takeCommand named item).ctrl := by
  unfold State.takeCommand
  split
  · exact .refl _
  · split
    · rename_i q rest _ hq
      simp only [State.answer_ctrl]
      exact State.judge_followed (t := { s with host := { s.host with queue := rest } })
        fun h => hi _ _ (hq ▸ h)
    · exact .refl _

/-- A command whose item leaves the Station Controller as it is. -/
theorem State.takeCommand_followed_of_ctrl {named : Option HostCommand} {item : List Octet → State → Answered}
    (hi : ∀ (params : List Octet) (t : State), (item params t).state.ctrl = t.ctrl) (s : State) :
    s.ctrl.FollowedBy (s.takeCommand named item).ctrl :=
  State.takeCommand_followed (fun params t _ => .of_eq (hi params t)) s

theorem State.getStation_followed (s : State) : s.ctrl.FollowedBy s.getStation.ctrl := by
  have htake (t : State) : t.ctrl.FollowedBy (t.takeCommand (some .getStation) getStationItem).ctrl :=
    State.takeCommand_followed_of_ctrl (fun _ _ => rfl) t
  unfold State.getStation
  split
  · split
    · exact htake s
    · dsimp only
      split
      · exact htake { s with breaks := _ }
      · exact .refl _
  · exact htake s

theorem configureItem_followed (params : List Octet) (s : State) :
    s.ctrl.FollowedBy (configureItem params s).state.ctrl := by
  unfold configureItem
  split
  · split
    · exact .refl _
    · split
      · split
        · exact .inl ⟨rfl, rfl⟩
        · exact .refl _
      · exact .refl _
  · exact .refl _

theorem joinItem_followed (params : List Octet) {s : State} (h : HostCommand.join.admittedIn s.station = true) :
    s.ctrl.FollowedBy (joinItem params s).state.ctrl := by
  have hoff : s.station = .offline := by simpa [HostCommand.admittedIn] using h
  unfold joinItem
  split
  · exact .change (st := .offline) (st' := .listening) (cause := .host) (by decide) hoff rfl rfl
  · exact .refl _

theorem leaveItem_followed (params : List Octet) (s : State) : s.ctrl.FollowedBy (leaveItem params s).state.ctrl := by
  unfold leaveItem
  split
  · exact .change (st := .listening) (st' := .offline) (cause := .host) (by decide) ‹_› rfl rfl
  · exact .change (st := .clashed) (st' := .offline) (cause := .host) (by decide) ‹_› rfl rfl
  · exact .change (st := .active) (st' := .leaving) (cause := .host) (by decide) ‹_› rfl rfl
  · exact .change (st := .detached) (st' := .leaving) (cause := .host) (by decide) ‹_› rfl rfl
  all_goals exact .refl _

theorem State.resumeActive_ctrl (s : State) :
    s.resumeActive.ctrl =
      { s.ctrl with state := .active, cause := some .host, leaseTimer := s.ctrl.config.leaseStart } := by
  unfold State.resumeActive
  rw [State.sweep_ctrl fun p t => t.appendHeld_ctrl p]
  rfl

theorem resumeItem_followed (params : List Octet) {s : State} (h : HostCommand.resume.admittedIn s.station = true) :
    s.ctrl.FollowedBy (resumeItem params s).state.ctrl := by
  have hdet : s.station = .detached := by simpa [HostCommand.admittedIn] using h
  simp only [resumeItem, State.accept, s.resumeActive_ctrl]
  exact .change (st := .detached) (st' := .active) (cause := .host) (by decide) hdet rfl rfl

theorem clearConditionItem_ctrl (params : List Octet) (s : State) :
    (clearConditionItem params s).state.ctrl = s.ctrl := by
  unfold clearConditionItem
  split <;> rfl

theorem readPointItem_ctrl (params : List Octet) (s : State) : (readPointItem params s).state.ctrl = s.ctrl := by
  unfold readPointItem
  split <;> rfl

theorem writePointItem_ctrl (params : List Octet) (s : State) : (writePointItem params s).state.ctrl = s.ctrl := by
  unfold writePointItem
  split
  · dsimp only
    split_ifs <;> rfl
  · rfl

theorem claimPointItem_ctrl (params : List Octet) (s : State) : (claimPointItem params s).state.ctrl = s.ctrl := by
  unfold claimPointItem
  split
  · dsimp only
    split_ifs <;> rfl
  · rfl

theorem State.requestRelease_ctrl (s : State) (p : PointId) : (s.requestRelease p).1.ctrl = s.ctrl := by
  rw [State.requestRelease_fst]

theorem releasePointItem_ctrl (params : List Octet) (s : State) : (releasePointItem params s).state.ctrl = s.ctrl := by
  unfold releasePointItem
  split
  · dsimp only
    split
    · exact State.requestRelease_ctrl _ _
    · split
      · rfl
      · exact State.requestRelease_ctrl _ _
    all_goals rfl
  · rfl

theorem recallPointItem_ctrl (params : List Octet) (s : State) : (recallPointItem params s).state.ctrl = s.ctrl := by
  unfold recallPointItem
  split
  · dsimp only
    split
    · rfl
    · split <;> rfl
  · rfl

theorem subscriptionItem_ctrl (flag : Bool) (params : List Octet) (s : State) :
    (subscriptionItem flag params s).state.ctrl = s.ctrl := by
  unfold subscriptionItem
  split
  · dsimp only
    split_ifs <;> rfl
  · rfl

theorem readEventItem_ctrl (params : List Octet) (s : State) : (readEventItem params s).state.ctrl = s.ctrl := by
  unfold readEventItem
  split <;> rfl

theorem readPeerItem_ctrl (params : List Octet) (s : State) : (readPeerItem params s).state.ctrl = s.ctrl := by
  unfold readPeerItem
  split
  · split
    · split <;> rfl
    · rfl
  · rfl

/-! ### The SPI port -/

theorem State.csnFalls_ctrl (s : State) : s.csnFalls.ctrl = s.ctrl := by
  unfold State.csnFalls
  split_ifs <;> rfl

theorem State.receiveOctet_followed (s : State) (c : Receiving) (o : Octet) :
    s.ctrl.FollowedBy (s.receiveOctet c o).ctrl := by
  have hlease : s.ctrl.FollowedBy s.ctrl.restartLease := by
    unfold Controller.restartLease
    split <;> exact .inl ⟨rfl, rfl⟩
  simp only [State.receiveOctet]
  split
  · exact .refl _
  · exact hlease

theorem State.lastOctet_followed (s : State) (o : Octet) : s.ctrl.FollowedBy (s.lastOctet o).ctrl := by
  unfold State.lastOctet
  split
  · split
    · exact s.receiveOctet_followed _ o
    · exact .refl _
  all_goals exact .refl _

theorem State.octetClocked_followed (s : State) (o : Octet) : s.ctrl.FollowedBy (s.octetClocked o).ctrl := by
  unfold State.octetClocked
  split
  · exact .refl _
  · exact s.receiveOctet_followed _ o
  all_goals exact .refl _

/-! ### The line -/

/-- Session end from LEAVING. -/
theorem State.endSession_followed {s : State} (h : s.station = .leaving) :
    s.ctrl.FollowedBy (s.endSession .leaveDone).ctrl :=
  .change (st := .leaving) (st' := .offline) (cause := .leaveDone) (by decide) h rfl rfl

/-- A dropped frame ends the session when it is the FAREWELL (R117, R154). -/
theorem State.dropReport_followed {s : State} {b : Body} (h : b = .farewell → s.station = .leaving) :
    s.ctrl.FollowedBy (s.dropReport b).ctrl := by
  cases b with
  | claim p =>
    refine .of_eq ?_
    simp only [State.dropReport, State.claimDropped]
    split <;> rfl
  | publish records =>
    refine .of_eq ?_
    simp only [State.dropReport]
    split
    · exact State.foldl_ctrl (fun t r => t.appendHeld_ctrl r.point) records s
    · rfl
  | farewell => exact State.endSession_followed (h rfl)
  | _ => exact .refl _

/-- A frame sent ends the session when it is the FAREWELL (R117, R164). -/
theorem State.endReport_followed {s : State} {b : Body} (h : b = .farewell → s.station = .leaving) :
    s.ctrl.FollowedBy (s.endReport b).ctrl := by
  cases b with
  | presence st fresh held n pUnits =>
    simp only [State.endReport]
    split <;> exact .inl ⟨rfl, rfl⟩
  | publish records =>
    refine .of_eq ?_
    have hone (t : State) (r : PublishRecord) : (t.restartRefresh r.point).ctrl = t.ctrl := by
      simp only [State.restartRefresh]
      split <;> rfl
    simp only [State.endReport]
    split
    · exact State.foldl_ctrl hone records s
    · rfl
  | claim p =>
    refine .of_eq ?_
    simp only [State.endReport, State.startWindow]
    split_ifs <;> rfl
  | farewell => exact State.endSession_followed (h rfl)
  | _ => exact .refl _

theorem State.collides_followed {s : State} (hw : s.WorkFits) : s.ctrl.FollowedBy s.collides.ctrl := by
  obtain ⟨-, -, -, hfarewell⟩ := hw
  unfold State.collides
  split
  · rename_i b _ hf
    split
    · split
      · exact .refl _
      · unfold State.aborted
        split_ifs
        · exact .refl _
        · exact State.dropReport_followed (s := State.countDropped _ _ _) (hfarewell b hf)
        · exact .refl _
    all_goals exact .refl _
  · exact .refl _

theorem State.ownFrameEnds_followed {s : State} (hw : s.WorkFits) : s.ctrl.FollowedBy s.ownFrameEnds.ctrl := by
  obtain ⟨-, -, -, hfarewell⟩ := hw
  unfold State.ownFrameEnds
  split
  · rename_i b _ hf
    split
    · split
      · exact State.endReport_followed (s := State.closeFrame _ _) (hfarewell b hf)
      · exact .refl _
    all_goals exact .refl _
  · exact .refl _

theorem State.character_followed {s : State} (hw : s.WorkFits) (octet : Octet) (stopHigh : Bool) :
    s.ctrl.FollowedBy (s.character octet stopHigh).ctrl := by
  have hback : s.ctrl.FollowedBy (s.characterReadBack octet stopHigh).ctrl := by
    unfold State.characterReadBack
    split
    · split
      · split
        · exact .refl _
        · exact State.collides_followed hw
      · exact .refl _
    · exact .refl _
  unfold State.character
  split
  · split <;> exact .refl _
  · exact .refl _
  · exact .refl _
  · exact hback
  all_goals exact .refl _

theorem State.startBit_ctrl (s : State) : s.startBit.ctrl = s.ctrl := by
  unfold State.startBit
  split <;> rfl

theorem State.seekingDone_ctrl (s : State) : s.seekingDone.ctrl = s.ctrl := by
  unfold State.seekingDone
  split <;> rfl

/-- A clash is taken in LISTENING, ACTIVE and DETACHED alone (R119). -/
theorem State.clash_followed (s : State) : s.ctrl.FollowedBy s.clash.ctrl := by
  have henter {u : State} (ht : s.takesFrames = true) (hu : u.ctrl = s.ctrl) :
      s.ctrl.FollowedBy u.enterClashed.ctrl := by
    rcases s.takesFrames_iff.mp ht with h | h | h
    · exact .change (st := .listening) (st' := .clashed) (cause := .clash) (by decide) h rfl rfl
    · exact .change (st := .active) (st' := .clashed) (cause := .clash) (by decide) h rfl rfl
    · exact .change (st := .detached) (st' := .clashed) (cause := .clash) (by decide) h rfl rfl
  rcases s.clash_cases with ⟨-, h⟩ | ⟨ht, ⟨-, h⟩ | ⟨-, h⟩⟩
  · exact .of_eq (by rw [h])
  · rw [h]
    exact henter ht rfl
  · rw [h]
    exact henter ht (State.urgentSlot_ctrl _)

theorem State.takeFrame_ctrl (s : State) (f : Frame) : (s.takeFrame f).ctrl = s.ctrl := by
  unfold State.takeFrame
  split_ifs <;> rfl

theorem State.frameEnds_followed (s : State) : s.ctrl.FollowedBy s.frameEnds.ctrl := by
  have hjudge : s.ctrl.FollowedBy s.judgeFrame.ctrl := by
    simp only [State.judgeFrame]
    split
    · exact .refl _
    · split
      · exact .refl _
      · split
        · exact .refl _
        · split
          · exact State.clash_followed (s.closeFrame _)
          · exact .of_eq (State.takeFrame_ctrl _ _)
  unfold State.frameEnds
  split
  · split
    · exact hjudge
    all_goals exact .refl _
  · exact .refl _

/-! ### Timers -/

theorem State.claimWindowExpires_ctrl (s : State) (p : PointId) : (s.claimWindowExpires p).ctrl = s.ctrl := by
  simp only [State.claimWindowExpires]
  split <;> rfl

theorem State.refreshExpires_ctrl (s : State) (p : PointId) : (s.refreshExpires p).ctrl = s.ctrl := by
  simp only [State.refreshExpires]
  split
  · split <;> rfl
  · rfl

theorem State.staleExpires_ctrl (s : State) (p : PointId) : (s.staleExpires p).ctrl = s.ctrl := by
  simp only [State.staleExpires]
  split
  · split <;> simp [State.goStale]
  · rfl

theorem State.contenderExpires_ctrl (s : State) (p : PointId) : (s.contenderExpires p).ctrl = s.ctrl := by
  simp only [State.contenderExpires]
  split <;> rfl

theorem State.silence2P_ctrl (s : State) (x : Addr) : (s.silence2P x).ctrl = s.ctrl := by
  simp only [State.silence2P]
  split <;> simp

theorem State.silence5P_ctrl (s : State) (x : Addr) : (s.silence5P x).ctrl = s.ctrl := by
  simp only [State.silence5P]
  split <;> simp [State.peerGone]

theorem State.listenExpires_followed (s : State) : s.ctrl.FollowedBy s.listenExpires.ctrl := by
  unfold State.listenExpires
  split
  · rename_i h
    exact .change (st := .listening) (st' := .active) (cause := .listenDone) (by decide) h.1 rfl rfl
  · exact .refl _

theorem State.presenceExpires_followed (s : State) : s.ctrl.FollowedBy s.presenceExpires.ctrl := by
  unfold State.presenceExpires
  split
  · rw [State.requestPresence_eq]
    split_ifs <;> exact .inl ⟨rfl, rfl⟩
  · exact .refl _

theorem State.leaseExpires_followed (s : State) : s.ctrl.FollowedBy s.leaseExpires.ctrl := by
  unfold State.leaseExpires
  split
  · rename_i h
    exact State.enterDetached_followed h.1 (.inl rfl)
  · exact .refl _

theorem State.tick_followed (s : State) : s.ctrl.FollowedBy s.tick.ctrl := by
  unfold State.tick
  split
  · exact .refl _
  · exact .inl ⟨rfl, rfl⟩

/-! ### Every command -/

/-- A command answers with a state whose Station Controller follows. -/
theorem Controller.FollowedBy.of_next {s t u : State} (ht : Host.Outcome.next (φ := Fault) (ρ := Refusal) u = .next t)
    (hu : s.ctrl.FollowedBy u.ctrl) : s.ctrl.FollowedBy t.ctrl := by
  cases ht
  exact hu

theorem exec_followed {c : Instr} {s t : State} (hw : s.WorkFits) (ht : exec c s = .next t) (hr : c ≠ .reset)
    (hrel : ∀ address rate, c ≠ .resetRelease address rate) : s.ctrl.FollowedBy t.ctrl := by
  cases c with
  | reset => exact absurd rfl hr
  | resetRelease address rate => exact absurd rfl (hrel address rate)
  | csnFall => exact .of_next ht (.of_eq s.csnFalls_ctrl)
  | csnRise => exact .of_next ht (.refl _)
  | commandComplete mosi => exact .of_next ht (s.lastOctet_followed mosi)
  | spiOctetClocked mosi => exact .of_next ht (s.octetClocked_followed mosi)
  | unknownCommand => exact .of_next ht (State.takeCommand_followed_of_ctrl (fun _ _ => rfl) s)
  | getStation => exact .of_next ht s.getStation_followed
  | configure => exact .of_next ht (State.takeCommand_followed (fun params t _ => configureItem_followed params t) s)
  | join =>
    exact .of_next ht
      (State.takeCommand_followed (named := some .join) (fun params _ => joinItem_followed params) s)
  | leave => exact .of_next ht (State.takeCommand_followed (fun params t _ => leaveItem_followed params t) s)
  | resume =>
    exact .of_next ht
      (State.takeCommand_followed (named := some .resume) (fun params _ => resumeItem_followed params) s)
  | clearCondition => exact .of_next ht (State.takeCommand_followed_of_ctrl clearConditionItem_ctrl s)
  | readPoint => exact .of_next ht (State.takeCommand_followed_of_ctrl readPointItem_ctrl s)
  | writePoint => exact .of_next ht (State.takeCommand_followed_of_ctrl writePointItem_ctrl s)
  | claimPoint => exact .of_next ht (State.takeCommand_followed_of_ctrl claimPointItem_ctrl s)
  | releasePoint => exact .of_next ht (State.takeCommand_followed_of_ctrl releasePointItem_ctrl s)
  | recallPoint => exact .of_next ht (State.takeCommand_followed_of_ctrl recallPointItem_ctrl s)
  | subscribe => exact .of_next ht (State.takeCommand_followed_of_ctrl (subscriptionItem_ctrl true) s)
  | unsubscribe => exact .of_next ht (State.takeCommand_followed_of_ctrl (subscriptionItem_ctrl false) s)
  | readEvent => exact .of_next ht (State.takeCommand_followed_of_ctrl readEventItem_ctrl s)
  | readPeer => exact .of_next ht (State.takeCommand_followed_of_ctrl readPeerItem_ctrl s)
  | lineIdleAfterSeeking => exact .of_next ht (.of_eq s.seekingDone_ctrl)
  | startBit => exact .of_next ht (.of_eq s.startBit_ctrl)
  | characterReceived octet stopHigh => exact .of_next ht (State.character_followed hw octet stopHigh)
  | frameEnd => exact .of_next ht s.frameEnds_followed
  | frameEndedWithoutCollision => exact .of_next ht (State.ownFrameEnds_followed hw)
  | collision => exact .of_next ht (State.collides_followed hw)
  | urgentSlot => exact .of_next ht (.of_eq s.urgentSlot_ctrl)
  | rankedSlot => exact .of_next ht (.of_eq s.rankedSlot_ctrl)
  | frameProcessorTakesFrame => exact .of_next ht (.of_eq s.takeNextFrame_ctrl)
  | rosterFrameItem | publishRecord | claimHeard | assertHeard | releaseHeard | recallHeard =>
    refine .of_next ht (.of_eq (State.takeItem_ctrl (fun f item effect t he => ?_) s))
    cases item <;> cases he
    simp
  | claimWindowExpiry point => exact .of_next ht (.of_eq (s.claimWindowExpires_ctrl point))
  | refreshTimerExpiry point => exact .of_next ht (.of_eq (s.refreshExpires_ctrl point))
  | staleTimerExpiry point => exact .of_next ht (.of_eq (s.staleExpires_ctrl point))
  | contenderTimerExpiry point => exact .of_next ht (.of_eq (s.contenderExpires_ctrl point))
  | listenTimerExpiry => exact .of_next ht s.listenExpires_followed
  | presenceTimerExpiry => exact .of_next ht s.presenceExpires_followed
  | leaseExpiry => exact .of_next ht s.leaseExpires_followed
  | silenceTimer2P peer => exact .of_next ht (.of_eq (s.silence2P_ctrl peer))
  | silenceTimer5P peer => exact .of_next ht (.of_eq (s.silence5P_ctrl peer))

/-- Settles O59: a millisecond keeps state and cause, and a command follows the table by `exec_followed`. -/
theorem stationStateChangesFollowTheTable : Obligations.StationStateChangesFollowTheTable := by
  unfold Obligations.StationStateChangesFollowTheTable
  intro s t hw ht hr hrel
  show s.ctrl.FollowedBy t.ctrl
  match hp : s.pending with
  | [] =>
    have hidle : Host.Outcome.next (φ := Fault) (ρ := Refusal) s.tick = .next t := by
      rw [← ht, step, hp]
    exact .of_next hidle s.tick_followed
  | c :: rest =>
    have hexec : exec c { s with pending := rest } = .next t := by
      rw [← ht, step, hp]
    exact exec_followed (s := { s with pending := rest }) hw hexec
      (fun e => hr rest (by rw [hp, e])) (fun address rate e => hrel address rate rest (by rw [hp, e]))

end Sys2Proof.Machine
end

section
/-! SUPPORT. The release of reset, the outputs, and the station commands CONFIGURE, JOIN and LEAVE (O5, O52, O16, O17,
O19). -/

namespace Sys2Proof.Machine

/-- Settles O5: a release clears the part whether or not it is in reset, and then samples the straps. -/
theorem releaseSamplesTheStraps : Obligations.ReleaseSamplesTheStraps := by
  unfold Obligations.ReleaseSamplesTheStraps
  intro s address rate
  have hrelease : exec (.resetRelease address rate) s = .next (s.released address rate) := rfl
  refine ⟨?_, s.released address rate, hrelease, ?_, rfl, rfl, rfl, rfl, rfl⟩
  · rw [hrelease]
    rfl
  · exact BitVec.val_toFin address

/-! ### The outputs -/

/-- TXEN is asserted while characters of a frame being sent remain (R150). -/
theorem State.txen_iff (s : State) :
    s.txen = true ↔ s.line.state = .sending ∧ ∃ b, s.tx.frame = some b ∧ b.readBack < b.frame.encode.length := by
  unfold State.txen
  split
  · rename_i b hl hf
    simp [hl, hf]
  · rename_i h
    simp only [Bool.false_eq_true, false_iff, not_and, not_exists]
    exact fun hl b hf => absurd hf (h b hl)

/-- An octet is on its way out exactly while TXEN is asserted. -/
theorem State.txd_isSome (s : State) : s.txd.isSome = s.txen := by
  unfold State.txd State.txen
  split
  · rw [Bool.eq_iff_iff]
    simp
  · rfl

/-- Settles O52: `State.txen_iff` and `State.txd_isSome`; ATTNn is the disjunction that R213 gives. -/
theorem outputsFollowTheState : Obligations.OutputsFollowTheState := by
  unfold Obligations.OutputsFollowTheState
  intro s
  refine ⟨?_, s.txd_isSome.symm, s.txen_iff⟩
  simp [State.attention, Option.isSome_iff_ne_none, or_assoc]

/-! ### CONFIGURE -/

/-- A command that its station state does not admit, RESUME apart, is answered BAD_STATE (R175, R177). -/
theorem State.taken_notAdmitted {s : State} {c : HostCommand} {q : QueuedCommand} {rest : List QueuedCommand}
    (hq : s.host.queue = q :: rest) (hcode : q.code = c.code) (hc : c ≠ .resume) (hcond : s.host.condition = none)
    (hcount : c.admitsCount q.count = true) (hst : c.admittedIn s.station = false)
    (item : List Octet → State → Answered) : s.takeCommand (some c) item = s.excepted q rest .badState := by
  have hof : HostCommand.ofCode q.code = some c := by rw [hcode, HostCommand.ofCode_code]
  have hjudge : (s.dequeued rest).judge q item = (s.dequeued rest).refuse .badState := by
    have hadm : c.admittedIn (s.dequeued rest).station = false := hst
    have hnone : (s.dequeued rest).host.condition.isSome = false := by simp [State.dequeued, hcond]
    simp only [State.judge, hof, hnone, hcount, hadm, if_true, if_false, Bool.false_eq_true, false_and]
    cases c with
    | resume => exact absurd rfl hc
    | _ => rfl
  have htake : s.takeCommand (some c) item =
      ((((s.dequeued rest).judge q item).state.recordCondition q ((s.dequeued rest).judge q item).status).deliver q
        ((s.dequeued rest).judge q item).status ((s.dequeued rest).judge q item).data) := by
    simp only [State.takeCommand, hq, hof, if_true]
    rfl
  rw [htake, hjudge]
  refine (State.answer_exception (s.dequeued rest) q (status := .badState) rfl ?_).trans rfl
  simp [hof, hc]

/-- An octet gives no segment size unless it is 4, 8, 16 or 32 (R103). -/
theorem octetSegment_eq_none {o : Octet} : octetSegment o = none ↔ ¬ (o = 4 ∨ o = 8 ∨ o = 16 ∨ o = 32) := by
  unfold octetSegment
  split_ifs <;> simp_all

theorem octetSegment_of_toNat {o : Octet} {size : SegmentSize} (h : o.toNat = size.toNat) :
    octetSegment o = some size := by
  have ho : o = BitVec.ofNat 8 size.toNat := by rw [← h, BitVec.ofNat_toNat, BitVec.setWidth_eq]
  subst ho
  cases size <;> rfl

theorem octetDiscipline_eq_none {o : Octet} : octetDiscipline o = none ↔ ¬ (o = 0 ∨ o = 1) := by
  unfold octetDiscipline
  split_ifs <;> simp_all

theorem octetDiscipline_of_switch {o : Octet} (h : o = 0 ∨ o = 1) :
    octetDiscipline o = some (if o = 0 then .strict else .lenient) := by
  rcases h with rfl | rfl <;> rfl

theorem octetSwitch_eq_none {o : Octet} : octetSwitch o = none ↔ ¬ (o = 0 ∨ o = 1) := by
  unfold octetSwitch
  split_ifs <;> simp_all

theorem octetSwitch_of_switch {o : Octet} (h : o = 0 ∨ o = 1) : octetSwitch o = some (decide (o = 1)) := by
  rcases h with rfl | rfl <;> rfl

theorem periodOk_iff (p : Octet) : periodOk p = true ↔ 2 ≤ p.toNat ∧ p.toNat ≤ 200 := by
  simp [periodOk]

theorem configureItem_locked {s : State} (h : s.ctrl.locked = true) (n p l d a : Octet) :
    configureItem [n, p, l, d, a] s = s.refuse .configLocked := by
  simp [configureItem, h]

/-- One value out of range is enough for BAD_CONFIG (R103). -/
theorem configureItem_outOfRange {s : State} (hl : s.ctrl.locked = false) {n p l d a : Octet}
    (h : ¬ ((n = 4 ∨ n = 8 ∨ n = 16 ∨ n = 32) ∧ (2 ≤ p.toNat ∧ p.toNat ≤ 200) ∧ (d = 0 ∨ d = 1) ∧ (a = 0 ∨ a = 1))) :
    configureItem [n, p, l, d, a] s = s.refuse .badConfig := by
  have hsome : ¬ (octetSegment n ≠ none ∧ periodOk p = true ∧ octetDiscipline d ≠ none ∧ octetSwitch a ≠ none) := by
    simpa only [Ne, octetSegment_eq_none, octetDiscipline_eq_none, octetSwitch_eq_none, not_not, periodOk_iff] using h
  simp only [configureItem, hl, Bool.false_eq_true, if_false]
  split
  · rename_i hn hd ha
    split
    · exact absurd ⟨by simp [hn], ‹_›, by simp [hd], by simp [ha]⟩ hsome
    · rfl
  · rfl

theorem configureItem_accepted {s : State} (hl : s.ctrl.locked = false) {n p l d a : Octet} {size : SegmentSize}
    (hn : n.toNat = size.toNat) (hp : 2 ≤ p.toNat ∧ p.toNat ≤ 200) (hd : d = 0 ∨ d = 1) (ha : a = 0 ∨ a = 1) :
    configureItem [n, p, l, d, a] s =
      (s.configured { n := size, pUnits := p, lease := l, discipline := if d = 0 then .strict else .lenient }
        (decide (a = 1))).accept := by
  simp [configureItem, hl, octetSegment_of_toNat hn, octetDiscipline_of_switch hd, octetSwitch_of_switch ha,
    (periodOk_iff p).mpr hp]

/-- Settles O16: outside OFFLINE the port refuses; in OFFLINE the command reaches its item, whose checks follow. -/
theorem configureSetsTheConfigurationOnce : Obligations.ConfigureSetsTheConfigurationOnce := by
  unfold Obligations.ConfigureSetsTheConfigurationOnce
  intro s q rest n p l d a hq hcode hcount hparams hcond sizeOk periodOk switchesOk
  have hadmits : HostCommand.configure.admitsCount q.count = true := by rw [hcount]; rfl
  have reached (h : s.station = .offline) : s.reaches .configure q rest :=
    ⟨hq, hcode, .inl hcond, hadmits, decide_eq_true h⟩
  have refused (h : s.station = .offline) {status : Status} (he : status.isException = true)
      (hi : configureItem [n, p, l, d, a] (s.dequeued rest) = (s.dequeued rest).refuse status) :
      exec .configure s = .next (s.excepted q rest status) :=
    congrArg Host.Outcome.next (State.taken_exception (reached h) (by decide) (hparams ▸ hi) he)
  refine ⟨fun h => ?_, fun h hl => ?_, fun h hl hn => ?_, fun h hl hp hs size hn => ?_⟩
  · exact congrArg Host.Outcome.next
      (State.taken_notAdmitted (c := .configure) hq hcode (by decide) hcond hadmits (decide_eq_false h) configureItem)
  · exact refused h rfl (configureItem_locked (s := s.dequeued rest) hl n p l d a)
  · exact refused h rfl (configureItem_outOfRange (s := s.dequeued rest) hl hn)
  · obtain ⟨hd, ha⟩ := hs
    have hi := configureItem_accepted (s := s.dequeued rest) hl (l := l) hn hp hd ha
    have he : exec .configure s = .next (((s.dequeued rest).configured _ _).answered q rest .ok []) :=
      congrArg Host.Outcome.next (State.taken_ordinary (reached h) (hparams ▸ hi) rfl rfl)
    rw [he]
    rcases ha with rfl | rfl <;> rfl

/-! ### JOIN and LEAVE -/

/-- Settles O17: JOIN's item tests the own address against N. -/
theorem joinBeginsListening : Obligations.JoinBeginsListening := by
  unfold Obligations.JoinBeginsListening
  intro s q rest hr
  refine ⟨fun hlt => ?_, fun hle => ?_⟩
  · have hi : joinItem q.params (s.dequeued rest) = (s.dequeued rest).enterListening.accept := if_pos hlt
    have he : exec .join s = .next ((s.dequeued rest).enterListening.answered q rest .ok []) :=
      congrArg Host.Outcome.next (State.taken_ordinary hr hi rfl rfl)
    exact he
  · have hi : joinItem q.params (s.dequeued rest) = (s.dequeued rest).refuse .badConfig := if_neg (Nat.not_lt_of_le hle)
    exact congrArg Host.Outcome.next (State.taken_exception hr (by decide) hi rfl)

/-- Settles O19: LEAVE's item enters LEAVING; what becomes of the built frame turns on whether it is in flight. -/
theorem leaveEntersLeaving : Obligations.LeaveEntersLeaving := by
  unfold Obligations.LeaveEntersLeaving
  intro s q rest hr hst
  have hi : leaveItem q.params (s.dequeued rest) = (s.dequeued rest).enterLeaving.accept := by
    have hstation : (s.dequeued rest).station = s.station := rfl
    rcases hst with h | h <;> simp only [leaveItem, hstation, h]
  have he : exec .leave s = .next ((s.dequeued rest).enterLeaving.answered q rest .ok []) :=
    congrArg Host.Outcome.next (State.taken_ordinary hr hi rfl rfl)
  rw [he]
  obtain ⟨_, _, _, _, _, _, _, ⟨_, _, frame, _⟩, _, _, _, _, _, _, _, _⟩ := s
  match frame with
  | none => rfl
  | some ⟨_, _, .inFlight _, _, _⟩ => rfl
  | some ⟨_, _, .retry _, _, _⟩ => rfl
  | some ⟨_, _, .cutOff, _, _⟩ => rfl

end Sys2Proof.Machine
end

section
/-! SUPPORT. The ranked slot outside ACTIVE and DETACHED (O36). -/

namespace Sys2Proof.Machine

theorem exec_rankedSlot (s : State) : exec .rankedSlot s = .next s.rankedSlot := rfl

/-- FAREWELL is the one request of its kind. -/
theorem Scheduler.oldest_farewell (t : Scheduler) :
    t.oldest .farewell = if Request.farewell ∈ t.control then some .farewell else none := by
  have hkind (r : Request) : r.kind = .farewell ↔ r = .farewell := by
    cases r <;> simp [Request.kind]
  unfold Scheduler.oldest
  simp only [hkind]
  split
  · rename_i hm
    have hfound : (t.control.find? fun r => decide (r = .farewell)).isSome = true :=
      List.find?_isSome.mpr ⟨.farewell, hm, by simp⟩
    obtain ⟨r, hr⟩ := Option.isSome_iff_exists.mp hfound
    have he : r = .farewell := by simpa using List.find?_some hr
    rw [hr, he]
  · rename_i hm
    refine List.find?_eq_none.mpr fun r hr he => hm ?_
    rwa [← of_decide_eq_true he]

theorem State.leavingSlot_retry {s : State} {b : BuiltFrame} {urgent : Bool} (hf : s.tx.frame = some b)
    (hp : b.place = .retry urgent) (slot : Nat) : s.leavingSlot slot = s.send b slot := by
  simp only [State.leavingSlot, Scheduler.retryFrame, hf, hp]

theorem State.leavingSlot_request {s : State} (hf : s.tx.frame = none) (hm : Request.farewell ∈ s.tx.control)
    (slot : Nat) : s.leavingSlot slot = s.sendRequest .farewell slot := by
  simp only [State.leavingSlot, Scheduler.retryFrame, hf, Scheduler.oldest_farewell, hm, if_true]

theorem State.leavingSlot_idle {s : State} (hf : s.tx.frame = none) (hm : Request.farewell ∉ s.tx.control)
    (slot : Nat) : s.leavingSlot slot = s := by
  simp only [State.leavingSlot, Scheduler.retryFrame, hf, Scheduler.oldest_farewell, hm, if_false]

theorem State.rankedOffer_leaving {s : State} (h : s.station = .leaving) (slot : Nat) :
    State.rankedOffer slot s = s.leavingSlot slot := by
  simp only [State.rankedOffer, h]

theorem State.rankedOffer_passes {s : State}
    (h : s.station = .offline ∨ s.station = .listening ∨ s.station = .clashed) (slot : Nat) :
    State.rankedOffer slot s = s := by
  rcases h with h | h | h <;> simp only [State.rankedOffer, h]

/-- Settles O36: where the round's slots are offered the station does what `State.rankedOffer` says, and elsewhere the
ladder alone goes on. -/
theorem leavingSlotSendsTheFarewell : Obligations.LeavingSlotSendsTheFarewell := by
  unfold Obligations.LeavingSlotSendsTheFarewell
  intro s slot
  refine ⟨fun l hi hl => ?_, fun h => ?_⟩
  · intro round quiet
    have hslot : s.rankedSlot = if l.offeredFrom ≤ round then State.rankedOffer slot quiet else quiet := by
      rw [State.rankedSlot, State.slotBegins_idle hi hl]
      exact if_congr (by simp only [Ladder.offers, decide_eq_true_eq]; rfl) rfl rfl
    rw [exec_rankedSlot, hslot]
    refine ⟨fun hst ho => ?_, fun h => ?_⟩
    · rw [if_pos ho, State.rankedOffer_leaving (s := quiet) hst]
      refine ⟨fun b urgent hf hp => ?_, fun hf hm => ?_, fun hf hm => ?_⟩
      · rw [State.leavingSlot_retry (s := quiet) hf hp]
        rfl
      · rw [State.leavingSlot_request (s := quiet) hf hm]
        rfl
      · rw [State.leavingSlot_idle (s := quiet) hf hm]
    · rcases h with hlt | hst
      · rw [if_neg (Nat.not_le_of_lt hlt)]
      · rw [State.rankedOffer_passes (s := quiet) hst, ite_self]
  · exact ⟨congrArg _ (State.slotBegins_stopped h _ _), congrArg _ (State.slotBegins_stopped h _ _)⟩

end Sys2Proof.Machine
end

section
/-! SUPPORT. The judging of a received frame at its end (O28). -/

namespace Sys2Proof.Machine

/-! ### The checks of R134 in their order -/

theorem State.frameEnds_inFrame {s : State} (hg : s.line.gap.isSome = true) (hl : s.line.state = .inFrame) :
    s.frameEnds = s.judgeFrame := by
  simp only [State.frameEnds, Line.quiet, hg, hl, if_true]

theorem State.frameEnds_discarding {s : State} (hg : s.line.gap.isSome = true)
    (hl : s.line.state = .discarding false) : s.frameEnds = s.countFraming.closeGarbled := by
  simp only [State.frameEnds, Line.quiet, hg, hl, if_true]

theorem State.frameEnds_aborted {s : State} (hg : s.line.gap.isSome = true)
    (hl : s.line.state = .discarding true) : s.frameEnds = s.closeGarbled := by
  simp only [State.frameEnds, Line.quiet, hg, hl, if_true]

theorem State.judgeFrame_framing {s : State} (h : s.line.octets.length < 6 ∨ 55 < s.line.octets.length) :
    s.judgeFrame = s.countFraming.closeGarbled :=
  if_pos h

section
variable {s : State} (h6 : 6 ≤ s.line.octets.length) (h55 : s.line.octets.length ≤ 55)
include h6 h55

theorem State.judgeFrame_crc (hc : crcMatches s.line.octets = false) :
    s.judgeFrame = State.closeGarbled { s with
      counters := { s.counters with crcErrors := countUp s.counters.crcErrors } } :=
  (if_neg (not_or.mpr ⟨Nat.not_lt_of_le h6, Nat.not_lt_of_le h55⟩)).trans (if_pos (by simp [hc]))

variable (hc : crcMatches s.line.octets = true)
include hc

theorem State.judgeFrame_content (hf : readFrame s.n s.line.octets = none) :
    s.judgeFrame = State.closeGarbled { s with
      counters := { s.counters with invalidFrames := countUp s.counters.invalidFrames } } := by
  refine (if_neg (not_or.mpr ⟨Nat.not_lt_of_le h6, Nat.not_lt_of_le h55⟩)).trans ((if_neg (by simp [hc])).trans ?_)
  simp only [hf]

/-- A valid frame is a clash when it bears the own address, and is taken or discarded otherwise (R134, R136). -/
theorem State.judgeFrame_valid {f : Frame} (hf : readFrame s.n s.line.octets = some f) :
    s.judgeFrame =
      if f.source = s.own then (s.closeFrame f.source).clash else (s.closeFrame f.source).takeFrame f := by
  refine (if_neg (not_or.mpr ⟨Nat.not_lt_of_le h6, Nat.not_lt_of_le h55⟩)).trans ((if_neg (by simp [hc])).trans ?_)
  simp only [hf]

end

/-! ### A valid frame of another station (R137, R140) -/

theorem State.takeFrame_duplicate {s : State} {f : Frame} (h : s.referenceSequence f.source = some f.sequence) :
    s.takeFrame f = { s with counters := { s.counters with duplicates := countUp s.counters.duplicates } } :=
  if_pos h

theorem State.takeFrame_new {s : State} {f : Frame} (h : s.referenceSequence f.source ≠ some f.sequence) :
    s.takeFrame f =
      if ¬ s.takesFrames = true then s
      else if s.rx.fifo.length < 4 then { s with rx := { s.rx with fifo := s.rx.fifo ++ [f] } }
      else { s with
        counters := { s.counters with overruns := countUp s.counters.overruns }
        events := s.events.offer (.rxOverrun 1) } :=
  if_neg h

/-! ### The entry to CLASHED -/

/-- The entry to CLASHED with no frame on its way: the lists and the line stay as they are (R120). -/
theorem State.enterClashed_grounded {s : State} (hf : s.tx.flying = false) (hl : s.line.state ≠ .sending) :
    s.enterClashed = { s with
      ctrl := { s.ctrl with
        state := .clashed, cause := some .clash, listenTimer := none, presenceTimer := none, leaseTimer := none
        freshStart := false }
      events := s.events.offer (.stationState .clashed (some .clash))
      rx := {} } := by
  have htx : s.enterClashed.tx = s.tx := Scheduler.cutOff_grounded hf
  have hline : s.enterClashed.line = s.line := if_neg hl
  calc s.enterClashed = { s.enterClashed with tx := s.tx, line := s.line } := by rw [← htx, ← hline]
    _ = _ := rfl

/-- The entry to CLASHED while a frame is being sent: it is cut off, and the line is released (R120, R131). -/
theorem State.enterClashed_sending {s : State} {b : BuiltFrame} {slot : Nat} (hl : s.line.state = .sending)
    (hf : s.tx.frame = some b) (hp : b.place = .inFlight slot) :
    s.enterClashed = { s with
      ctrl := { s.ctrl with
        state := .clashed, cause := some .clash, listenTimer := none, presenceTimer := none, leaseTimer := none
        freshStart := false }
      events := s.events.offer (.stationState .clashed (some .clash))
      rx := {}
      tx := { s.tx with frame := some { b with place := .cutOff } }
      line := { s.line with state := .discarding true, octets := [], gap := some 0, ladder := none } } := by
  have htx : s.enterClashed.tx = { s.tx with frame := some { b with place := .cutOff } } :=
    Scheduler.cutOff_flying hf hp
  have hline : s.enterClashed.line =
      { s.line with state := .discarding true, octets := [], gap := some 0, ladder := none } := if_pos hl
  calc s.enterClashed = { s.enterClashed with tx := s.enterClashed.tx, line := s.enterClashed.line } := rfl
    _ = _ := by rw [htx, hline]; rfl

theorem State.clash_before {s : State} (ht : s.takesFrames = true) (h : s.slotFirst.head? ≠ some true) :
    s.clash = State.enterClashed { s with slotFirst := s.slotFirst.tail } := by
  rcases s.clash_cases with ⟨hn, -⟩ | ⟨-, ⟨-, he⟩ | ⟨hf, -⟩⟩
  · simp [hn] at ht
  · exact he
  · exact absurd hf h

theorem State.clash_after {s : State} (ht : s.takesFrames = true) (h : s.slotFirst.head? = some true) :
    s.clash = (State.urgentSlot { s with slotFirst := s.slotFirst.tail }).enterClashed := by
  rcases s.clash_cases with ⟨hn, -⟩ | ⟨-, ⟨hf, -⟩ | ⟨-, he⟩⟩
  · simp [hn] at ht
  · exact absurd h hf
  · exact he

/-- A slot on an idle line with no frame in flight: unless a frame is begun, none is in flight after it. -/
theorem State.urgentSlot_grounded {s : State} (hf : s.tx.flying = false) (h : s.urgentSlot.line.state ≠ .sending) :
    s.urgentSlot.tx.flying = false := by
  rcases s.urgentSlot_cases with he | ⟨hs, -⟩
  · rw [he]
    exact hf
  · exact absurd hs h

/-- A slot on an idle line: the frame being sent after it has begun in slot 0. -/
theorem State.urgentSlot_begun {s : State} {b : BuiltFrame} (hl : s.line.state ≠ .sending)
    (h : s.urgentSlot.line.state = .sending) (hb : s.urgentSlot.tx.frame = some b) : b.place = .inFlight 0 := by
  rcases s.urgentSlot_cases with he | ⟨-, -, -, b', hb', hp⟩
  · rw [he] at h
    exact absurd h hl
  · rwa [Option.some.inj (hb.symm.trans hb')]

/-- Settles O28: `State.frameEnds` and `State.judgeFrame` by the checks of R134; a clash by `State.clash_cases`, with
slot 0 taken first or not. -/
theorem frameEndIsJudged : Obligations.FrameEndIsJudged := by
  unfold Obligations.FrameEndIsJudged
  intro s hg octets listens up ended garbled clashed
  have judged (hl : s.line.state = .inFrame) : exec .frameEnd s = .next s.judgeFrame :=
    congrArg Host.Outcome.next (State.frameEnds_inFrame hg hl)
  refine ⟨fun hl => ?_, ?_, fun hl h6 h55 => ⟨fun hc => ?_, fun hc hf => ?_, fun f hc hf => ?_⟩⟩
  · exact congrArg Host.Outcome.next (State.frameEnds_aborted hg hl)
  · rintro (hl | ⟨hl, h⟩)
    · exact congrArg Host.Outcome.next (State.frameEnds_discarding hg hl)
    · rw [judged hl, State.judgeFrame_framing h]
      rfl
  · rw [judged hl, State.judgeFrame_crc h6 h55 hc]
    rfl
  · rw [judged hl, State.judgeFrame_content h6 h55 hc hf]
    rfl
  · have htakes (x : Addr) : (s.closeFrame x).takesFrames = true ↔ listens := s.takesFrames_iff
    have own (h : f.source = s.own) : exec .frameEnd s = .next (s.closeFrame s.own).clash := by
      rw [judged hl, State.judgeFrame_valid h6 h55 hc hf, if_pos h, h]
    have other (h : f.source ≠ s.own) : exec .frameEnd s = .next ((s.closeFrame f.source).takeFrame f) := by
      rw [judged hl, State.judgeFrame_valid h6 h55 hc hf, if_neg h]
    refine ⟨fun h hn => ?_, fun h ht hfly => ?_, fun h hdup => ?_, fun h hnew => ?_⟩
    · exact (own h).trans (congrArg _ (if_neg (mt (htakes _).mp hn)))
    · intro left
      have ht' := (htakes s.own).mpr ht
      refine ⟨fun hfirst => ?_, fun hfirst => ⟨left.urgentSlot, rfl, fun hu => ?_, fun b hu hb => ?_⟩⟩
      · have hclash : (s.closeFrame s.own).clash = left.enterClashed := State.clash_before ht' hfirst
        rw [own h, hclash, State.enterClashed_grounded (s := left) hfly (by simp [left, ended])]
      all_goals
        have hclash : (s.closeFrame s.own).clash = left.urgentSlot.enterClashed := State.clash_after ht' hfirst
        rw [own h, hclash]
      · rw [State.enterClashed_grounded (State.urgentSlot_grounded (s := left) hfly hu) hu, State.urgentSlot_ctrl,
          State.urgentSlot_events]
      · have hp := State.urgentSlot_begun (s := left) (by simp [left, ended]) hu hb
        rw [State.enterClashed_sending hu hb hp, State.urgentSlot_ctrl, State.urgentSlot_events]
    · rw [other h, State.takeFrame_duplicate (s := s.closeFrame f.source) hdup]
      rfl
    · rw [other h, State.takeFrame_new (s := s.closeFrame f.source) hnew]
      refine ⟨fun hn => ?_, fun ht hroom => ?_, fun ht hfull => ?_⟩
      · rw [if_pos (mt (htakes _).mp hn)]
        rfl
      · rw [if_neg (not_not_intro ((htakes _).mpr ht))]
        exact congrArg _ (if_pos hroom)
      · rw [if_neg (not_not_intro ((htakes _).mpr ht))]
        exact congrArg _ (if_neg (Nat.not_lt_of_le hfull))

end Sys2Proof.Machine
end

section
/-! SUPPORT. What commands leave of the queues: the Event Queue fits after every post, and all but the Host Port's own
commands leave the Host Port as it is (O56). -/

namespace Sys2Proof.Machine

/-! ### The Event Queue -/

theorem Event.merge_countFits (e : Event) {w : Event} (h : w.countFits = true) : (e.merge w).countFits = true := by
  cases e <;> cases w <;> try exact h
  · simp only [Event.merge]
    split <;> rfl
  · simp [Event.merge, Event.countFits, Config.countMax]

/-- A POINT_CHANGED merges into every waiting one for its point (R208). -/
theorem Event.mergesInto_of_isChangeOf {e w : Event} {p : PointId} (he : e.isChangeOf p = true)
    (hw : w.isChangeOf p = true) : e.mergesInto w = true := by
  cases e <;> cases w <;> simp_all [Event.isChangeOf, Event.mergesInto]

/-- An RX_OVERRUN merges into every waiting one (R209). -/
theorem Event.mergesInto_of_isOverrun {e w : Event} (he : e.isOverrun = true) (hw : w.isOverrun = true) :
    e.mergesInto w = true := by
  cases e <;> cases w <;> simp_all [Event.isOverrun, Event.mergesInto]

/-- A record appended where none of its sort waits leaves at most one of that sort. -/
theorem countP_append_le_one {sort : Event → Bool} {l : List Event} {e : Event} (h : l.countP sort ≤ 1)
    (hnone : sort e = true → ∀ w ∈ l, sort w = false) : (l ++ [e]).countP sort ≤ 1 := by
  rw [List.countP_append]
  by_cases he : sort e = true
  · have hzero : l.countP sort = 0 := List.countP_eq_zero.mpr fun w hw => by simp [hnone he w hw]
    simp [hzero, he]
  · simpa [he] using h

/-- A post keeps the Event Queue: it merges, joins the tail or is counted as lost (R207 to R209). -/
theorem EventQueue.Fits.offer {q : EventQueue} (h : q.Fits) {e : Event} (he : e.countFits = true) :
    (q.offer e).Fits := by
  obtain ⟨hlen, hchange, hover, hcount, hlost, hfull⟩ := h
  have alone {sort : Event → Bool} (hnone : ∀ w ∈ q.records, e.mergesInto w = false)
      (hmerge : ∀ w, sort e = true → sort w = true → e.mergesInto w = true) (hs : sort e = true) :
      ∀ w ∈ q.records, sort w = false := fun w hw => by
    by_contra hsort
    exact absurd (hmerge w hs (by simpa using hsort)) (by simp [hnone w hw])
  rcases q.offer_cases e with ⟨-, ho⟩ | ⟨hnone, hroom, ho⟩ | ⟨-, hno, ho⟩ <;> rw [ho]
  · have hsame {sort : Event → Bool} (hk : ∀ w, sort (e.merge w) = sort w) :
        (q.records.map e.merge).countP sort = q.records.countP sort := by
      rw [List.countP_map]
      exact congrArg (List.countP · q.records) (funext hk)
    refine ⟨by simpa using hlen, fun p => ?_, ?_, ?_, hlost, by simpa using hfull⟩
    · rw [hsame fun w => Event.merge_isChangeOf e w p]
      exact hchange p
    · rw [hsame (Event.merge_isOverrun e)]
      exact hover
    · simpa using fun w hw => Event.merge_countFits e (hcount w hw)
  · refine ⟨by simpa using hroom, fun p => ?_, ?_, ?_, hlost, fun hl => ?_⟩
    · exact countP_append_le_one (hchange p) (alone hnone fun _ => Event.mergesInto_of_isChangeOf)
    · exact countP_append_le_one hover (alone hnone fun _ => Event.mergesInto_of_isOverrun)
    · simpa [or_imp, forall_and] using ⟨hcount, he⟩
    · exact absurd (hfull hl) (Nat.ne_of_lt hroom)
  · exact ⟨hlen, hchange, hover, hcount, Nat.min_le_right .., fun _ => Nat.le_antisymm hlen hno⟩

/-- The removal of the oldest record, with EVENTS_LOST in its place where records were lost (R210, R211). -/
theorem EventQueue.Fits.noteLost {q : EventQueue} {e : Event} {rest : List Event} (h : q.Fits)
    (hq : q.records = e :: rest) : (EventQueue.noteLost { q with records := rest }).Fits := by
  obtain ⟨hlen, hchange, hover, hcount, hlost, hfull⟩ := h
  rw [hq] at hlen hchange hover hcount hfull
  have htail {sort : Event → Bool} (hs : (e :: rest).countP sort ≤ 1) : rest.countP sort ≤ 1 :=
    ((List.sublist_cons_self e rest).countP_le).trans hs
  have hrest : ∀ w ∈ rest, w.countFits = true := fun w hw => hcount w (List.mem_cons_of_mem _ hw)
  simp only [List.length_cons] at hlen hfull
  unfold EventQueue.noteLost
  split
  · rename_i hzero
    exact ⟨Nat.le_of_succ_le hlen, fun p => htail (hchange p), htail hover, hrest, hlost, fun hn => absurd hzero hn⟩
  · rename_i hnz
    refine ⟨by simpa using hlen, fun p => ?_, ?_, ?_, Nat.zero_le _, fun hn => absurd rfl hn⟩
    · exact countP_append_le_one (htail (hchange p)) (fun hs => by simp [Event.isChangeOf] at hs)
    · exact countP_append_le_one (htail hover) (fun hs => by simp [Event.isOverrun] at hs)
    · have hnew : (Event.eventsLost q.lost).countFits = true := by
        simp only [Event.countFits, Bool.and_eq_true, decide_eq_true_eq]
        exact ⟨Nat.one_le_iff_ne_zero.mpr hnz, hlost⟩
      simpa [or_imp, forall_and] using ⟨hrest, hnew⟩

/-! ### What leaves the queues within their sizes -/

/-- From `s` to `t` the Host Port and the configuration stay as they are, and the Event Queue, the Receive FIFO and the
frame being assembled stay within their sizes. -/
def State.KeepsQueues (s t : State) : Prop :=
  t.host = s.host ∧ t.ctrl.config = s.ctrl.config ∧ (s.events.Fits → t.events.Fits) ∧
  (s.rx.fifo.length ≤ Config.fifoDepth → t.rx.fifo.length ≤ Config.fifoDepth) ∧
  (s.line.octets.length ≤ Config.frameMax → t.line.octets.length ≤ Config.frameMax)

namespace State.KeepsQueues

theorem refl (s : State) : s.KeepsQueues s := ⟨rfl, rfl, id, id, id⟩

theorem trans {s t u : State} (h : s.KeepsQueues t) (h' : t.KeepsQueues u) : s.KeepsQueues u := by
  obtain ⟨hhost, hconfig, hevents, hfifo, hoctets⟩ := h
  obtain ⟨hhost', hconfig', hevents', hfifo', hoctets'⟩ := h'
  exact ⟨hhost'.trans hhost, hconfig'.trans hconfig, hevents' ∘ hevents, hfifo' ∘ hfifo, hoctets' ∘ hoctets⟩

theorem offer {s t : State} {e : Event} (h : s.KeepsQueues t) (he : e.countFits = true) :
    s.KeepsQueues (t.offer e) :=
  h.trans ⟨rfl, rfl, fun hq => hq.offer he, id, id⟩

theorem offerPoint {s t : State} {p : PointId} {e : Event} (h : s.KeepsQueues t) (he : e.countFits = true) :
    s.KeepsQueues (t.offerPoint p e) := by
  unfold State.offerPoint
  split
  · exact h.offer he
  · exact h

theorem countDropped {s t : State} {kind : FrameKind} {p : Option PointId} (h : s.KeepsQueues t) :
    s.KeepsQueues (t.countDropped kind p) :=
  h.offer (e := .txDropped kind p) rfl

theorem changeStation {s t : State} {st : StationState} {cause : Cause} (h : s.KeepsQueues t) :
    s.KeepsQueues (t.changeStation st cause) :=
  h.offer (e := .stationState st (some cause)) rfl

theorem postCarried {s t : State} {p : PointId} {c : Carried} (h : s.KeepsQueues t) :
    s.KeepsQueues (t.postCarried p c) := by
  unfold State.postCarried
  split
  · exact h.offerPoint rfl
  · exact h

theorem sweep {s t : State} {f : PointId → State → State} (h : s.KeepsQueues t)
    (hf : ∀ (p : PointId) (u : State), u.KeepsQueues (f p u)) : s.KeepsQueues (t.sweep f) :=
  State.sweep_induction h fun u p hu => hu.trans (hf p u)

theorem foldl {α : Type} {s t : State} {f : State → α → State} {l : List α} (h : s.KeepsQueues t)
    (hf : ∀ (u : State) (a : α), u.KeepsQueues (f u a)) : s.KeepsQueues (l.foldl f t) := by
  induction l generalizing t with
  | nil => exact h
  | cons a l ih => exact ih (h.trans (hf t a))

/-- Session end empties the reception (R29, R118). -/
theorem endSession {s t : State} {cause : Cause} (h : s.KeepsQueues t) : s.KeepsQueues (t.endSession cause) := by
  obtain ⟨hhost, hconfig, hevents, -, -⟩ := h.changeStation (st := .offline) (cause := cause)
  exact ⟨hhost, hconfig, hevents, fun _ => Nat.zero_le _, fun _ => Nat.zero_le _⟩

/-- The end of a frame empties the octets (R131). -/
theorem closeFrame {s t : State} {x : Addr} (h : s.KeepsQueues t) : s.KeepsQueues (t.closeFrame x) :=
  h.trans ⟨rfl, rfl, id, id, fun _ => Nat.zero_le _⟩

end State.KeepsQueues

/-! ### Requests and records -/

namespace State

theorem appendHeld_keepsQueues (s : State) (p : PointId) : s.KeepsQueues (s.appendHeld p) := by
  unfold State.appendHeld
  split <;> exact .refl s

theorem defend_keepsQueues (s : State) (p : PointId) : s.KeepsQueues (s.defend p) := by
  have hassert : s.KeepsQueues (s.requestAssert p) := by
    rcases s.requestAssert_cases p with ⟨-, h⟩ | ⟨-, -, h⟩ | ⟨-, -, h⟩ <;> rw [h]
    · exact .refl s
    · exact .countDropped (.refl _)
    · exact .refl s
  exact hassert

theorem requestRelease_keepsQueues (s : State) (p : PointId) : s.KeepsQueues (s.requestRelease p).1 := by
  rw [State.requestRelease_fst]
  exact .refl s

theorem loseClaimTo_keepsQueues (s : State) (p : PointId) (y : Addr) (c : Carried) (cause : ClaimLoss) :
    s.KeepsQueues (s.loseClaimTo p y c cause) := by
  unfold State.loseClaimTo
  exact .postCarried (.offer (.refl _) rfl)

theorem yield_keepsQueues (s : State) (p : PointId) (y : Addr) (c : Carried) (cause : OwnershipLoss) :
    s.KeepsQueues (s.yield p y c cause) := by
  unfold State.yield
  exact .postCarried (.offer (.refl _) rfl)

theorem challenge_keepsQueues (s : State) (p : PointId) (y : Addr) (c : Carried) :
    s.KeepsQueues (s.challenge p y c) := by
  unfold State.challenge
  split
  · split
    · exact s.yield_keepsQueues p y c _
    · exact s.defend_keepsQueues p
  · exact s.yield_keepsQueues p y c _
  all_goals exact .refl s

theorem newOwner_keepsQueues (s : State) (p : PointId) (old : Option Addr) (y : Addr) (c : Carried) :
    s.KeepsQueues (s.newOwner p old y c) := by
  unfold State.newOwner
  exact .postCarried (.offerPoint (.refl _) rfl)

theorem contest_keepsQueues (s : State) (p : PointId) (x y : Addr) (c : Carried) :
    s.KeepsQueues (s.contest p x y c) := by
  have hset : s.KeepsQueues (s.setPt p ((s.pt p).contested x y c)) := .refl s
  simp only [State.contest]
  split
  · exact ((hset.offerPoint rfl).offerPoint rfl).postCarried
  · exact hset.offerPoint rfl

theorem holderActs_keepsQueues (s : State) (p : PointId) (y : Addr) (c : Carried) (loss : ClaimLoss)
    {fromOwner : State → State} (hf : s.KeepsQueues (fromOwner s)) :
    s.KeepsQueues (s.holderActs p y c loss fromOwner) := by
  simp only [State.holderActs]
  split
  · exact s.newOwner_keepsQueues p none y c
  · exact s.loseClaimTo_keepsQueues p y c loss
  · exact s.challenge_keepsQueues p y c
  all_goals
    split
    · exact .refl s
    · split_ifs
      · exact hf
      · exact s.newOwner_keepsQueues p _ y c
      · exact .refl s
      · exact s.contest_keepsQueues p _ y c

theorem ownerLeaves_keepsQueues (s : State) (p : PointId) (x : Addr) (claimant : Option Addr) :
    s.KeepsQueues (s.ownerLeaves p x claimant) := by
  unfold State.ownerLeaves
  exact .offerPoint (.refl _) rfl

theorem promote_keepsQueues (s : State) (p : PointId) (x : Addr) : s.KeepsQueues (s.promote p x) := by
  simp only [State.promote]
  split
  · exact .refl s
  · exact .offerPoint (.refl _) rfl

theorem goStale_keepsQueues (s : State) (p : PointId) (x : Addr) : s.KeepsQueues (s.goStale p x) := by
  unfold State.goStale
  exact .offerPoint (.refl _) rfl

/-! ### Notifications -/

theorem markDown_keepsQueues (x : Addr) (p : PointId) (s : State) : s.KeepsQueues (State.markDown x p s) := by
  simp only [State.markDown]
  split_ifs
  · exact s.goStale_keepsQueues p x
  · exact .refl s
  · exact .refl s

theorem forget_keepsQueues (x : Addr) (p : PointId) (s : State) : s.KeepsQueues (State.forget x p s) := by
  simp only [State.forget]
  split_ifs
  · exact s.ownerLeaves_keepsQueues p x _
  · exact s.promote_keepsQueues p x
  all_goals exact .refl s

theorem restarted_keepsQueues (x : Addr) (p : PointId) (s : State) : s.KeepsQueues (State.restarted x p s) := by
  simp only [State.restarted]
  split_ifs
  · exact s.ownerLeaves_keepsQueues p x _
  all_goals exact .refl s

theorem peerGone_keepsQueues (s : State) (x : Addr) (cause : GoneCause) : s.KeepsQueues (s.peerGone x cause) := by
  unfold State.peerGone
  exact .sweep (.offer (.refl _) rfl) (State.forget_keepsQueues x)

/-! ### Items of a received frame -/

theorem heardFrom_keepsQueues (s : State) (x : Addr) (seq : Octet) : s.KeepsQueues (s.heardFrom x seq) := by
  simp only [State.heardFrom]
  split
  · exact .offer (.refl _) rfl
  · exact .offer (.refl _) rfl
  · exact .offer (.refl _) rfl
  · exact .refl s

theorem takeFresh_keepsQueues (s : State) (x : Addr) (fresh : Bool) : s.KeepsQueues (s.takeFresh x fresh) := by
  unfold State.takeFresh
  split
  · exact .sweep (.offer (.refl _) rfl) (State.restarted_keepsQueues x)
  · exact .refl s

theorem takeDetached_keepsQueues (s : State) (x : Addr) (st : PresenceState) :
    s.KeepsQueues (s.takeDetached x st) := by
  unfold State.takeDetached
  dsimp only
  split
  · exact .sweep (.offer (.refl _) rfl) (State.markDown_keepsQueues x)
  · exact .offer (.refl _) rfl
  all_goals exact .refl s

theorem takeAnnounced_keepsQueues (s : State) (x : Addr) (a : Announced) : s.KeepsQueues (s.takeAnnounced x a) := by
  simp only [State.takeAnnounced]
  split
  · exact .offer (.refl _) rfl
  · exact .refl s

theorem rosterItem_keepsQueues (s : State) (f : Frame) : s.KeepsQueues (s.rosterItem f) := by
  have hheard := s.heardFrom_keepsQueues f.source f.sequence
  simp only [State.rosterItem]
  split
  · split
    · exact ((hheard.trans (takeFresh_keepsQueues ..)).trans (takeDetached_keepsQueues ..)).trans
        (takeAnnounced_keepsQueues ..)
    · exact hheard.trans (peerGone_keepsQueues ..)
    all_goals exact hheard
  · exact .refl s

theorem publishRecord_keepsQueues (s : State) (x : Addr) (r : PublishRecord) :
    s.KeepsQueues (s.publishRecord x r) := by
  refine s.holderActs_keepsQueues _ _ _ _ ?_
  simp only [State.ownerPublishes]
  split
  · exact .refl s
  · split
    · exact .offerPoint (.refl _) rfl
    · split_ifs
      · exact .offerPoint (.refl _) rfl
      · exact .refl s
      · exact .refl s

theorem assertHeard_keepsQueues (s : State) (x : Addr) (p : PointId) (length : Octet) :
    s.KeepsQueues (s.assertHeard x p length) := by
  unfold State.assertHeard
  split
  · refine s.holderActs_keepsQueues _ _ _ _ ?_
    simp only [State.ownerAsserts]
    split <;> exact .refl s
  · exact .refl s

theorem claimHeard_keepsQueues (s : State) (c : Addr) (p : PointId) : s.KeepsQueues (s.claimHeard c p) := by
  simp only [State.claimHeard]
  split
  · exact .refl s
  · split
    · exact .offer (.refl _) rfl
    · exact .refl s
  · split
    · exact s.defend_keepsQueues p
    · exact .offer (.refl _) rfl
    all_goals exact .refl s
  · split
    · exact s.ownerLeaves_keepsQueues p c _
    · exact .refl s
  · split
    · exact s.ownerLeaves_keepsQueues p c _
    · exact .refl s
  · split_ifs
    · exact s.ownerLeaves_keepsQueues p c _
    all_goals exact .refl s

theorem releaseHeard_keepsQueues (s : State) (x : Addr) (p : PointId) : s.KeepsQueues (s.releaseHeard x p) := by
  simp only [State.releaseHeard]
  split
  · split
    · exact s.ownerLeaves_keepsQueues p x _
    · exact .refl s
  · split_ifs
    · exact s.ownerLeaves_keepsQueues p x _
    all_goals exact .refl s
  · split <;> exact .refl s
  · split_ifs
    · exact s.promote_keepsQueues p x
    all_goals exact .refl s
  all_goals exact .refl s

theorem recallHeard_keepsQueues (s : State) (points : List PointId) : s.KeepsQueues (s.recallHeard points) := by
  unfold State.recallHeard
  split
  · exact .foldl (.refl s) State.appendHeld_keepsQueues
  · exact .refl s

theorem takeNextFrame_keepsQueues (s : State) : s.KeepsQueues s.takeNextFrame := by
  unfold State.takeNextFrame
  split
  · rename_i rest _ hfifo
    exact ⟨rfl, rfl, id, fun hl => by rw [hfifo] at hl; exact Nat.le_of_succ_le hl, id⟩
  · exact .refl s

theorem takeItem_keepsQueues {take : Frame → FrameItem → Option (State → State)}
    (h : ∀ f item effect (t : State), take f item = some effect → t.KeepsQueues (effect t)) (s : State) :
    s.KeepsQueues (s.takeItem take) := by
  unfold State.takeItem
  split
  · rename_i a _
    split
    · rename_i rest _
      split
      · split
        · exact KeepsQueues.trans (.refl (s.itemsLeft a rest)) (h _ _ _ _ ‹_›)
        · exact .refl s
      · exact .refl s
    · exact .refl s
  · exact .refl s

/-! ### Slots -/

theorem sendRequest_keepsQueues (s : State) (r : Request) (slot : Nat) : s.KeepsQueues (s.sendRequest r slot) := by
  cases r with
  | claim p =>
    simp only [State.sendRequest, State.sendClaim, State.claimBuilt]
    split <;> exact .refl s
  | _ => exact .refl s

theorem rankedOffer_keepsQueues (slot : Nat) (s : State) : s.KeepsQueues (State.rankedOffer slot s) := by
  have hfresh : s.KeepsQueues (s.freshSlot slot) := by
    unfold State.freshSlot
    split
    · split <;> exact .refl s
    · exact .refl s
  have hplain : s.KeepsQueues (s.plainSlot slot) := by
    unfold State.plainSlot
    split
    · exact .refl s
    · split
      · exact s.sendRequest_keepsQueues _ slot
      · split <;> exact .refl s
  have hleaving : s.KeepsQueues (s.leavingSlot slot) := by
    unfold State.leavingSlot
    split
    · exact .refl s
    · split
      · exact s.sendRequest_keepsQueues _ slot
      · exact .refl s
  have hsession : s.KeepsQueues (if s.ctrl.freshStart then s.freshSlot slot else s.plainSlot slot) := by
    split
    · exact hfresh
    · exact hplain
  unfold State.rankedOffer
  cases s.station with
  | active | detached => exact hsession
  | leaving => exact hleaving
  | offline | listening | clashed => exact .refl s

theorem urgentOffer_keepsQueues (s : State) : s.KeepsQueues s.urgentOffer := by
  have hchoice : s.KeepsQueues s.urgentChoice := by
    unfold State.urgentChoice
    split
    · split <;> exact .refl s
    · split
      · exact s.sendRequest_keepsQueues _ 0
      · exact .refl s
  have hsession : s.KeepsQueues (if s.ctrl.freshStart then s else s.urgentChoice) := by
    split
    · exact .refl s
    · exact hchoice
  unfold State.urgentOffer
  cases s.station with
  | active | detached => exact hsession
  | offline | listening | leaving | clashed => exact .refl s

theorem slotBegins_keepsQueues (s : State) (slot : Nat) {offer : State → State}
    (h : ∀ t : State, t.KeepsQueues (offer t)) : s.KeepsQueues (s.slotBegins slot offer) := by
  unfold State.slotBegins
  split
  · dsimp only
    split
    · exact KeepsQueues.trans (.refl s) (h _)
    · exact .refl s
  · exact .refl s

theorem rankedSlot_keepsQueues (s : State) : s.KeepsQueues s.rankedSlot :=
  s.slotBegins_keepsQueues _ (State.rankedOffer_keepsQueues _)

theorem urgentSlot_keepsQueues (s : State) : s.KeepsQueues s.urgentSlot :=
  s.slotBegins_keepsQueues 0 State.urgentOffer_keepsQueues

/-! ### The entries to the station states -/

theorem loseClaimDetached_keepsQueues (p : PointId) (s : State) : s.KeepsQueues (State.loseClaimDetached p s) := by
  simp only [State.loseClaimDetached]
  split
  · refine KeepsQueues.offer ?_ rfl
    split
    · exact .refl s
    · exact requestRelease_keepsQueues ((s.withdrawClaim p).setPt p _) p
  · exact .refl s

theorem enterDetached_keepsQueues (s : State) (cause : Cause) : s.KeepsQueues (s.enterDetached cause) := by
  have hturn : s.KeepsQueues (s.turnDetached cause) := by
    obtain ⟨hhost, hconfig, hevents, hfifo, hoctets⟩ :=
      (KeepsQueues.refl s).changeStation (st := .detached) (cause := cause)
    exact ⟨hhost, hconfig, hevents, hfifo, hoctets⟩
  have hvisits : s.KeepsQueues (allPoints.foldl (fun t p => t.loseClaimDetached p) (s.turnDetached cause)) :=
    hturn.foldl fun u p => State.loseClaimDetached_keepsQueues p u
  rw [State.enterDetached_visits]
  generalize allPoints.foldl (fun t p => t.loseClaimDetached p) (s.turnDetached cause) = t at hvisits ⊢
  exact hvisits

theorem enterClashed_keepsQueues (s : State) : s.KeepsQueues s.enterClashed := by
  obtain ⟨hhost, hconfig, hevents, -, -⟩ := (KeepsQueues.refl s).changeStation (st := .clashed) (cause := .clash)
  refine ⟨hhost, hconfig, hevents, fun _ => Nat.zero_le _, fun ho => ?_⟩
  rw [State.enterClashed_line]
  rcases s.line.cutOff_cases with ⟨-, h⟩ | ⟨-, h⟩ <;> rw [h]
  · exact Nat.zero_le _
  · exact ho

/-! ### The line -/

theorem startBit_keepsQueues (s : State) : s.KeepsQueues s.startBit := by
  unfold State.startBit
  split
  · exact ⟨rfl, rfl, id, id, fun _ => Nat.zero_le _⟩
  all_goals exact .refl s

theorem seekingDone_keepsQueues (s : State) : s.KeepsQueues s.seekingDone := by
  unfold State.seekingDone
  split <;> exact .refl s

theorem dropReport_keepsQueues (s : State) (b : Body) : s.KeepsQueues (s.dropReport b) := by
  cases b with
  | claim p =>
    simp only [State.dropReport, State.claimDropped]
    split
    · exact .offer (.refl _) rfl
    · exact .refl s
  | publish records =>
    simp only [State.dropReport]
    split
    · exact .foldl (.refl s) (fun t r => t.appendHeld_keepsQueues r.point)
    · exact .refl s
  | farewell => exact .endSession (.refl s)
  | _ => exact .refl s

theorem aborted_keepsQueues (s : State) (b : BuiltFrame) (slot : Nat) : s.KeepsQueues (s.aborted b slot) := by
  unfold State.aborted
  split_ifs
  · exact .refl s
  · exact .trans (.countDropped (.refl _)) (dropReport_keepsQueues ..)
  · exact .refl s

theorem collides_keepsQueues (s : State) : s.KeepsQueues s.collides := by
  unfold State.collides
  split
  · split
    · split
      · exact .refl s
      · refine .trans ?_ (aborted_keepsQueues ..)
        exact ⟨rfl, rfl, id, id, fun _ => Nat.zero_le _⟩
    all_goals exact .refl s
  · exact .refl s

theorem character_keepsQueues (s : State) (octet : Octet) (stopHigh : Bool) :
    s.KeepsQueues (s.character octet stopHigh) := by
  unfold State.character
  split
  · split
    · rename_i h
      exact ⟨rfl, rfl, id, id, fun _ => by simpa using h.2⟩
    · exact ⟨rfl, rfl, id, id, fun _ => Nat.zero_le _⟩
  · exact .refl s
  · exact .refl s
  · unfold State.characterReadBack
    split
    · split
      · split
        · exact .refl s
        · exact s.collides_keepsQueues
      · exact .refl s
    · exact .refl s
  all_goals exact .refl s

theorem takeFrame_keepsQueues (s : State) (f : Frame) : s.KeepsQueues (s.takeFrame f) := by
  unfold State.takeFrame
  split_ifs with _ _ hroom
  · exact .refl s
  · exact ⟨rfl, rfl, id, fun _ => by simpa using hroom, id⟩
  · exact .offer (.refl s) (e := .rxOverrun 1) rfl
  · exact .refl s

theorem clash_keepsQueues (s : State) : s.KeepsQueues s.clash := by
  have hfirst : s.KeepsQueues { s with slotFirst := s.slotFirst.tail } := .refl s
  rcases s.clash_cases with ⟨-, h⟩ | ⟨-, ⟨-, h⟩ | ⟨-, h⟩⟩ <;> rw [h]
  · exact .refl s
  · exact hfirst.trans (enterClashed_keepsQueues _)
  · exact (hfirst.trans (urgentSlot_keepsQueues _)).trans (enterClashed_keepsQueues _)

theorem frameEnds_keepsQueues (s : State) : s.KeepsQueues s.frameEnds := by
  have hclose (x : Addr) : s.KeepsQueues (s.closeFrame x) := .closeFrame (.refl s)
  have hjudge : s.KeepsQueues s.judgeFrame := by
    simp only [State.judgeFrame]
    split
    · exact hclose s.n.top
    · split
      · exact hclose s.n.top
      · split
        · exact hclose s.n.top
        · split
          · exact (hclose _).trans (clash_keepsQueues _)
          · exact (hclose _).trans (takeFrame_keepsQueues ..)
  unfold State.frameEnds
  split
  · split
    · exact hjudge
    · exact hclose s.n.top
    · exact hclose s.n.top
    all_goals exact .refl s
  · exact .refl s

theorem endReport_keepsQueues (s : State) (b : Body) : s.KeepsQueues (s.endReport b) := by
  cases b with
  | presence st fresh held n pUnits =>
    simp only [State.endReport]
    split <;> exact .refl s
  | publish records =>
    have hone (t : State) (r : PublishRecord) : t.KeepsQueues (t.restartRefresh r.point) := by
      simp only [State.restartRefresh]
      split <;> exact .refl t
    simp only [State.endReport]
    split
    · exact .foldl (.refl s) hone
    · exact .refl s
  | claim p =>
    simp only [State.endReport, State.startWindow]
    split_ifs <;> exact .refl s
  | farewell => exact .endSession (.refl s)
  | _ => exact .refl s

theorem ownFrameEnds_keepsQueues (s : State) : s.KeepsQueues s.ownFrameEnds := by
  unfold State.ownFrameEnds
  split
  · split
    · split
      · exact KeepsQueues.trans (.closeFrame (.refl _)) (endReport_keepsQueues ..)
      · exact .refl s
    all_goals exact .refl s
  · exact .refl s

/-! ### Timers -/

theorem claimWindowExpires_keepsQueues (s : State) (p : PointId) : s.KeepsQueues (s.claimWindowExpires p) := by
  simp only [State.claimWindowExpires]
  split
  · exact .offer (.refl _) rfl
  · exact .refl s

theorem refreshExpires_keepsQueues (s : State) (p : PointId) : s.KeepsQueues (s.refreshExpires p) := by
  simp only [State.refreshExpires]
  split
  · split <;> exact .refl s
  · exact .refl s

theorem staleExpires_keepsQueues (s : State) (p : PointId) : s.KeepsQueues (s.staleExpires p) := by
  simp only [State.staleExpires]
  split
  · split
    · exact s.goStale_keepsQueues p _
    · exact .refl s
  · exact .refl s

theorem contenderExpires_keepsQueues (s : State) (p : PointId) : s.KeepsQueues (s.contenderExpires p) := by
  simp only [State.contenderExpires]
  split <;> exact .refl s

theorem listenExpires_keepsQueues (s : State) : s.KeepsQueues s.listenExpires := by
  unfold State.listenExpires
  split
  · exact .changeStation (.refl s)
  · exact .refl s

theorem presenceExpires_keepsQueues (s : State) : s.KeepsQueues s.presenceExpires := by
  unfold State.presenceExpires
  split
  · rw [State.requestPresence_eq]
    split_ifs
    · exact .refl s
    · exact .refl s
    · exact .countDropped (.refl s)
  · exact .refl s

theorem leaseExpires_keepsQueues (s : State) : s.KeepsQueues s.leaseExpires := by
  unfold State.leaseExpires
  split
  · exact s.enterDetached_keepsQueues .lease
  · exact .refl s

theorem silence2P_keepsQueues (s : State) (x : Addr) : s.KeepsQueues (s.silence2P x) := by
  simp only [State.silence2P]
  split
  · exact .sweep (.offer (.refl _) rfl) (State.markDown_keepsQueues x)
  · exact .refl s

theorem silence5P_keepsQueues (s : State) (x : Addr) : s.KeepsQueues (s.silence5P x) := by
  have hgone (t : State) : t.KeepsQueues { t with rx := t.rx.sourceGone x } := by
    rw [Receiver.sourceGone_eq]
    exact .refl t
  simp only [State.silence5P]
  split
  · exact .trans (s.peerGone_keepsQueues x .timeout) (hgone _)
  · exact .refl s

theorem tick_keepsQueues (s : State) : s.KeepsQueues s.tick := by
  have hdue (t : State) (due : List Instr) : t.KeepsQueues { t with pending := due } := .refl t
  unfold State.tick
  split
  · exact .refl s
  · refine .trans ?_ (hdue _ _)
    exact ⟨rfl, rfl, id, id, id⟩

end State

end Sys2Proof.Machine
end

section
/-! SUPPORT. The Host Port's commands, and the queues after every step (O56). -/

namespace Sys2Proof.Machine

/-! ### What a host command's item may do -/

/-- What the three parts of O56 say of a step. -/
def State.QueuesStay (s t : State) : Prop :=
  (s.events.Fits → t.events.Fits) ∧ (s.QueuesFit → t.QueuesFit) ∧ (s.ConditionFits → t.ConditionFits)

theorem State.QueuesStay.refl (s : State) : s.QueuesStay s := ⟨id, id, id⟩

/-- From `s` to `t` the commands that wait stay as they are, the groups read stay or are forgotten, and the condition
record and the other queues stay as the spec has them; of the transaction nothing is said. -/
def State.KeepsCommands (s t : State) : Prop :=
  t.host.queue = s.host.queue ∧
  (t.host.reading = s.host.reading ∨ t.host.reading = {}) ∧ (s.ConditionFits → t.ConditionFits) ∧
  (s.events.Fits → t.events.Fits) ∧
  (s.rx.fifo.length ≤ Config.fifoDepth → t.rx.fifo.length ≤ Config.fifoDepth) ∧
  (s.line.octets.length ≤ Config.frameMax → t.line.octets.length ≤ Config.frameMax)

theorem State.KeepsQueues.conditionFits {s t : State} (h : s.KeepsQueues t) (hc : s.ConditionFits) :
    t.ConditionFits := by
  obtain ⟨hhost, hconfig, -⟩ := h
  unfold State.ConditionFits
  rw [hhost, hconfig]
  exact hc

theorem State.KeepsQueues.queuesStay {s t : State} (h : s.KeepsQueues t) : s.QueuesStay t := by
  obtain ⟨hhost, -, hevents, hfifo, hoctets⟩ := id h
  refine ⟨hevents, fun ⟨hf, ho, hrest⟩ => ⟨hfifo hf, hoctets ho, ?_⟩, h.conditionFits⟩
  rw [hhost]
  exact hrest

theorem State.KeepsQueues.keepsCommands {s t : State} (h : s.KeepsQueues t) : s.KeepsCommands t := by
  obtain ⟨hhost, -, hevents, hfifo, hoctets⟩ := id h
  exact ⟨by rw [hhost], .inl (by rw [hhost]), h.conditionFits, hevents, hfifo, hoctets⟩

theorem State.KeepsCommands.trans {s t u : State} (h : s.KeepsCommands t) (h' : t.KeepsCommands u) :
    s.KeepsCommands u := by
  obtain ⟨hqueue, hreading, hcondition, hevents, hfifo, hoctets⟩ := h
  obtain ⟨hqueue', hreading', hcondition', hevents', hfifo', hoctets'⟩ := h'
  refine ⟨hqueue'.trans hqueue, ?_, hcondition' ∘ hcondition, hevents' ∘ hevents, hfifo' ∘ hfifo, hoctets' ∘ hoctets⟩
  rcases hreading' with hr | hr
  · rwa [hr]
  · exact .inr hr

/-- The pending condition record is cleared (R195). -/
theorem State.keepsCommands_clear (s : State) :
    s.KeepsCommands { s with host := { s.host with condition := none } } :=
  ⟨rfl, .inl rfl, fun _ _ hc => by simp at hc, id, id, id⟩

/-- What an item answers: the queues are kept, and CONDITION_PENDING is not among its statuses (R175, R193). -/
def Answered.KeptFrom (s : State) (a : Answered) : Prop := s.KeepsCommands a.state ∧ a.status ≠ .conditionPending

theorem Answered.KeptFrom.refuse (s : State) {status : Status} (h : status ≠ .conditionPending) :
    (s.refuse status).KeptFrom s :=
  ⟨(State.KeepsQueues.refl s).keepsCommands, h⟩

theorem Answered.KeptFrom.accept {s t : State} {data : List Octet} (h : s.KeepsCommands t) :
    (t.accept data).KeptFrom s :=
  ⟨h, by simp [State.accept]⟩

theorem Answered.KeptFrom.acceptQueues {s t : State} {data : List Octet} (h : s.KeepsQueues t) :
    (t.accept data).KeptFrom s :=
  .accept h.keepsCommands

/-! ### The items -/

theorem getStationItem_kept (params : List Octet) (s : State) : (getStationItem params s).KeptFrom s :=
  .accept ⟨rfl, .inr rfl, id, id, id, id⟩

/-- CONFIGURE is taken only while no condition record is pending, so that it may change the discipline (R193). -/
theorem configureItem_kept (params : List Octet) {s : State} (h : s.host.condition = none) :
    (configureItem params s).KeptFrom s := by
  unfold configureItem
  split
  · split
    · exact .refuse s (by decide)
    · split
      · split
        · exact .accept ⟨rfl, .inl rfl, fun _ c hc => absurd (h.symm.trans hc) (by simp), id, id, id⟩
        · exact .refuse s (by decide)
      · exact .refuse s (by decide)
  · exact .refuse s (by decide)

theorem joinItem_kept (params : List Octet) (s : State) : (joinItem params s).KeptFrom s := by
  unfold joinItem
  split
  · obtain ⟨hhost, hconfig, hevents, hfifo, -⟩ :=
      (State.KeepsQueues.refl s).changeStation (st := .listening) (cause := .host)
    exact .acceptQueues ⟨hhost, hconfig, hevents, hfifo, fun _ => Nat.zero_le _⟩
  · exact .refuse s (by decide)

theorem State.enterLeaving_keepsQueues (s : State) : s.KeepsQueues s.enterLeaving := by
  obtain ⟨hhost, hconfig, hevents, -, hoctets⟩ :=
    (State.KeepsQueues.refl s).changeStation (st := .leaving) (cause := .host)
  exact ⟨hhost, hconfig, hevents, fun _ => Nat.zero_le _, hoctets⟩

theorem leaveItem_kept (params : List Octet) (s : State) : (leaveItem params s).KeptFrom s := by
  unfold leaveItem
  split
  · exact .acceptQueues (.endSession (.refl s))
  · exact .acceptQueues (.endSession (.refl s))
  · exact .acceptQueues s.enterLeaving_keepsQueues
  · exact .acceptQueues s.enterLeaving_keepsQueues
  all_goals exact .refuse s (by decide)

theorem resumeItem_kept (params : List Octet) (s : State) : (resumeItem params s).KeptFrom s := by
  refine .accept (s.keepsCommands_clear.trans (State.KeepsQueues.keepsCommands ?_))
  refine .sweep ?_ fun p u => u.appendHeld_keepsQueues p
  exact .trans (.changeStation (.refl _)) (.refl _)

theorem clearConditionItem_kept (params : List Octet) (s : State) : (clearConditionItem params s).KeptFrom s := by
  unfold clearConditionItem
  split
  · exact .accept s.keepsCommands_clear
  · exact .refuse s (by decide)

theorem readPointItem_kept (params : List Octet) (s : State) : (readPointItem params s).KeptFrom s := by
  unfold readPointItem
  split
  · exact .acceptQueues (.refl s)
  · exact .refuse s (by decide)

theorem writePointItem_kept (params : List Octet) (s : State) : (writePointItem params s).KeptFrom s := by
  unfold writePointItem
  split
  · dsimp only
    split_ifs
    · exact .refuse s (by decide)
    · exact .refuse s (by decide)
    · exact .acceptQueues (.refl s)
  · exact .refuse s (by decide)

theorem claimPointItem_kept (params : List Octet) (s : State) : (claimPointItem params s).KeptFrom s := by
  unfold claimPointItem
  split
  · dsimp only
    split_ifs
    iterate 4 exact .refuse s (by decide)
    exact .acceptQueues (.refl s)
  · exact .refuse s (by decide)

theorem releasePointItem_kept (params : List Octet) (s : State) : (releasePointItem params s).KeptFrom s := by
  have hrelease {t : State} {p : PointId} (ht : s.KeepsQueues t) : s.KeepsQueues (t.requestRelease p).1 :=
    ht.trans (t.requestRelease_keepsQueues p)
  unfold releasePointItem
  split
  · dsimp only
    split
    · exact .acceptQueues (hrelease (.refl _))
    · split
      · exact .acceptQueues (.refl s)
      · exact .acceptQueues (hrelease (.refl _))
    all_goals exact .refuse s (by decide)
  · exact .refuse s (by decide)

theorem recallPointItem_kept (params : List Octet) (s : State) : (recallPointItem params s).KeptFrom s := by
  unfold recallPointItem
  split
  · dsimp only
    split
    · exact .refuse s (by decide)
    · split
      · exact .acceptQueues (.refl s)
      · exact .refuse s (by decide)
  · exact .refuse s (by decide)

theorem subscriptionItem_kept (flag : Bool) (params : List Octet) (s : State) :
    (subscriptionItem flag params s).KeptFrom s := by
  unfold subscriptionItem
  split
  · dsimp only
    split_ifs
    · exact .acceptQueues (.refl s)
    · exact .refuse s (by decide)
    · exact .acceptQueues ⟨rfl, rfl, id, id, id⟩
  · exact .refuse s (by decide)

theorem readEventItem_kept (params : List Octet) (s : State) : (readEventItem params s).KeptFrom s := by
  unfold readEventItem
  split
  · exact .refuse s (by decide)
  · rename_i hq
    exact .acceptQueues ⟨rfl, rfl, fun h => h.noteLost hq, id, id⟩

theorem readPeerItem_kept (params : List Octet) (s : State) : (readPeerItem params s).KeptFrom s := by
  unfold readPeerItem
  split
  · split
    · split
      · exact .acceptQueues (.refl s)
      · exact .refuse s (by decide)
    · exact .refuse s (by decide)
  · exact .refuse s (by decide)

/-! ### Judging and answering -/

theorem State.notAdmitted_kept (s : State) (c : HostCommand) : (s.notAdmitted c).KeptFrom s := by
  cases c with
  | resume => exact ⟨s.keepsCommands_clear, by simp [State.notAdmitted, State.refuse]⟩
  | _ => exact .refuse s (by decide)

/-- The checks of R175 keep the queues as the item does, and CONDITION_PENDING is answered only while a record is
pending (R193, R194). -/
theorem State.judge_kept {t : State} {q : QueuedCommand} {item : List Octet → State → Answered}
    (hi : t.host.condition = none ∨ (HostCommand.ofCode q.code).any HostCommand.takenWhilePending = true →
      (item q.params t).KeptFrom t) :
    t.KeepsCommands (t.judge q item).state ∧
    ((t.judge q item).state.host.condition = none → (t.judge q item).status ≠ .conditionPending) := by
  have kept {a : Answered} (ha : a.KeptFrom t) :
      t.KeepsCommands a.state ∧ (a.state.host.condition = none → a.status ≠ .conditionPending) :=
    ⟨ha.1, fun _ => ha.2⟩
  have hviolation : t.KeepsQueues t.violation := by
    unfold State.violation
    split
    · exact t.enterDetached_keepsQueues .discipline
    · exact .refl t
  simp only [State.judge]
  split
  · rename_i hp
    refine ⟨hviolation.keepsCommands, fun hn => ?_⟩
    have hsome := hp.1
    rw [← hviolation.1, show t.violation.host.condition = none from hn] at hsome
    simp at hsome
  · rename_i hp
    have htaken : t.host.condition = none ∨ (HostCommand.ofCode q.code).any HostCommand.takenWhilePending = true := by
      by_contra h
      push Not at h
      exact hp ⟨Option.isSome_iff_ne_none.mpr h.1, h.2⟩
    cases HostCommand.ofCode q.code with
    | none => exact kept (.refuse t (by decide))
    | some c =>
      dsimp only
      split
      · split
        · exact kept (hi htaken)
        · exact kept (t.notAdmitted_kept c)
      · exact kept (.refuse t (by decide))

/-- An exception answer may create a condition record, under strict discipline alone (R191, R192). -/
theorem State.recordCondition_kept {s : State} {status : Status} (q : QueuedCommand)
    (hs : s.host.condition = none → status ≠ .conditionPending) : s.KeepsCommands (s.recordCondition q status) := by
  unfold State.recordCondition
  split
  · rename_i h
    obtain ⟨hstrict, hexception, hnone, -⟩ := h
    refine ⟨rfl, .inl rfl, fun _ c hc => ?_, id, id, id⟩
    cases hc
    exact ⟨hstrict, hexception, hs hnone⟩
  · exact (State.KeepsQueues.refl s).keepsCommands

theorem State.deliver_kept (s : State) (q : QueuedCommand) (status : Status) (data : List Octet) :
    s.KeepsCommands (s.deliver q status data) := by
  unfold State.deliver
  split
  · exact ⟨rfl, .inl rfl, id, id, id, id⟩
  · exact (State.KeepsQueues.refl s).keepsCommands

/-- A GET STATION in hand with its parameter count passes the checks of R175 in every state. -/
theorem State.reaches_getStation {s : State} {q : QueuedCommand} {rest : List QueuedCommand}
    (hq : s.host.queue = q :: rest) (hcode : q.code = 0x01) (hcount : q.count = 0) :
    s.reaches .getStation q rest :=
  ⟨hq, hcode, .inr rfl, by rw [hcount]; rfl, rfl⟩

section
variable {named : Option HostCommand} {item : List Octet → State → Answered}

/-- The command in hand leaves the queue, and otherwise the queues are kept as its item keeps them (R172, R175). -/
theorem State.takeCommand_kept
    (hi : ∀ (params : List Octet) (t : State),
      t.host.condition = none ∨ named.any HostCommand.takenWhilePending = true → (item params t).KeptFrom t)
    {s : State} {q : QueuedCommand} {rest : List QueuedCommand} (hq : s.host.queue = q :: rest)
    (hn : HostCommand.ofCode q.code = named) :
    State.KeepsCommands { s with host := { s.host with queue := rest } } (s.takeCommand named item) := by
  obtain ⟨hkept, hpending⟩ := State.judge_kept (t := { s with host := { s.host with queue := rest } }) (q := q)
    fun h => hi q.params _ (hn ▸ h)
  simp only [State.takeCommand, hq, hn, if_true]
  exact (hkept.trans (State.recordCondition_kept q hpending)).trans (State.deliver_kept ..)

theorem State.takeCommand_queuesStay (hstation : named = some .getStation → item = getStationItem)
    (hi : ∀ (params : List Octet) (t : State),
      t.host.condition = none ∨ named.any HostCommand.takenWhilePending = true → (item params t).KeptFrom t)
    (s : State) : s.QueuesStay (s.takeCommand named item) := by
  cases hqueue : s.host.queue with
  | nil =>
    have hnone : s.takeCommand named item = s := by simp only [State.takeCommand, hqueue]
    rw [hnone]
    exact .refl s
  | cons q rest =>
    by_cases hnamed : HostCommand.ofCode q.code = named
    · obtain ⟨hleft, hreading, hcondition, hevents, hfifo, hoctets⟩ := State.takeCommand_kept hi hqueue hnamed
      have hasked (hcode : q.code = 0x01) (hcount : q.count = 0) : (s.takeCommand named item).host.reading = {} := by
        have hget : named = some .getStation := by rw [← hnamed, hcode]; rfl
        rw [hget, hstation hget, State.getStation_answered (State.reaches_getStation hqueue hcode hcount)]
        rfl
      refine ⟨hevents, fun ⟨hfifoFits, hoctetsFit, hqueueFits, _, hread⟩ => ?_, hcondition⟩
      rw [hqueue] at hqueueFits
      refine ⟨hfifo hfifoFits, hoctets hoctetsFit, ?_, fun c hc => ?_, .inl ?_⟩
      · rw [hleft]
        exact Nat.le_of_succ_le hqueueFits
      · rw [hleft]
        exact hqueueFits
      · rcases hread with hread | ⟨-, -, q', rest', hq', hcode, hcount⟩
        · exact hreading.elim (fun h => h.trans hread) id
        · obtain ⟨rfl, -⟩ := List.cons.inj (hqueue.symm.trans hq')
          exact hasked hcode hcount
    · have hother : s.takeCommand named item = s := by simp only [State.takeCommand, hqueue, hnamed, if_false]
      rw [hother]
      exact .refl s

end

/-- A command other than GET STATION whose item keeps the queues whatever is pending. -/
theorem State.takeCommand_queuesStay_of_kept {named : Option HostCommand} {item : List Octet → State → Answered}
    (hstation : named ≠ some .getStation) (hi : ∀ params t, (item params t).KeptFrom t) (s : State) :
    s.QueuesStay (s.takeCommand named item) :=
  State.takeCommand_queuesStay (fun h => absurd h hstation) (fun params t _ => hi params t) s

/-! ### GET STATION -/

theorem State.stationAsked_queue {s : State} (h : s.stationAsked = true) :
    ∃ q rest, s.host.queue = q :: rest ∧ q.code = 0x01 ∧ q.count = 0 := by
  unfold State.stationAsked at h
  split at h
  · rename_i q rest hq
    rw [Bool.and_eq_true, decide_eq_true_eq] at h
    obtain ⟨hcode, hcount⟩ := h
    refine ⟨q, rest, hq, (HostCommand.code_of_ofCode hcode).symm, BitVec.eq_of_toNat_eq ?_⟩
    simpa [HostCommand.admitsCount, HostCommand.minParams, HostCommand.maxParams] using hcount
  · exact absurd h (by simp)

/-- A read broken off before the counters: some groups have been read, and not all (R178). -/
theorem StationReading.through_groups {a : StationReading} (ha : a.groups < 7) (s : State) {last : StationGroup}
    (hl : last ≠ .counters) : 0 < (a.through s last).groups ∧ (a.through s last).groups < 7 := by
  have hindex : last.index < 6 := by
    cases last with
    | counters => exact absurd rfl hl
    | _ => decide
  simp only [StationReading.through]
  omega

theorem State.getStation_queuesStay (s : State) : s.QueuesStay s.getStation := by
  have htake (t : State) : t.QueuesStay (t.takeCommand (some .getStation) getStationItem) :=
    State.takeCommand_queuesStay (fun _ => rfl) (fun params t _ => getStationItem_kept params t) t
  unfold State.getStation
  split
  · rename_i hasked
    split
    · exact htake s
    · rename_i more _
      dsimp only
      split
      · exact htake { s with breaks := more }
      · rename_i hl
        refine ⟨id, fun ⟨hfifo, hoctets, hqueue, hport, hread⟩ => ?_, id⟩
        have hgroups : s.host.reading.groups < 7 := by
          rcases hread with h | ⟨-, h, -⟩
          · rw [h]
            decide
          · exact h
        obtain ⟨hpos, hlt⟩ := StationReading.through_groups hgroups { s with breaks := more } hl
        exact ⟨hfifo, hoctets, hqueue, hport, .inr ⟨hpos, hlt, State.stationAsked_queue hasked⟩⟩
  · exact htake s

/-! ### The transaction -/

/-- A change of the transaction alone, to one in which no command is being received. -/
theorem State.QueuesStay.of_port {s t : State} {port : Port} (hport : ∀ c, port ≠ .receiving c)
    (hhost : t.host = { s.host with port := port }) (hconfig : t.ctrl = s.ctrl) (hevents : t.events = s.events)
    (hrx : t.rx = s.rx) (hline : t.line = s.line) : s.QueuesStay t := by
  refine ⟨fun h => hevents ▸ h, fun ⟨hfifo, hoctets, hqueue, _, hread⟩ => ?_, fun hc => ?_⟩
  · unfold State.QueuesFit
    rw [hrx, hline, hhost]
    exact ⟨hfifo, hoctets, hqueue, fun c hc => absurd hc (hport c), hread⟩
  · unfold State.ConditionFits
    rw [hconfig, hhost]
    exact hc

theorem State.csnFalls_queuesStay (s : State) : s.QueuesStay s.csnFalls := by
  unfold State.csnFalls
  split_ifs with _ _ hroom
  · exact .refl s
  · exact ⟨id, fun ⟨hfifo, hoctets, hqueue, _, hread⟩ =>
      ⟨hfifo, hoctets, hqueue, fun _ _ => hroom, hread⟩, id⟩
  · exact .of_port (port := .ignoring) nofun rfl rfl rfl rfl rfl
  · exact .refl s

theorem State.csnRises_queuesStay (s : State) : s.QueuesStay s.csnRises := by
  refine ⟨id, fun ⟨hfifo, hoctets, hqueue, _, hread⟩ => ⟨hfifo, hoctets, ?_, nofun, ?_⟩, id⟩
  · exact (List.length_map _).trans_le hqueue
  · refine hread.imp_right fun ⟨hpos, hlt, q, rest, hq, hcode, hcount⟩ => 
      ⟨hpos, hlt, { q with live := false }, rest.map fun q => { q with live := false }, ?_, hcode, hcount⟩
    exact congrArg (List.map fun q => { q with live := false }) hq

theorem State.receiveOctet_queuesStay {s : State} {c : Receiving} (hp : s.host.port = .receiving c) (o : Octet) :
    s.QueuesStay (s.receiveOctet c o) := by
  have hconfig : s.ctrl.restartLease.config = s.ctrl.config := by
    unfold Controller.restartLease
    split <;> rfl
  simp only [State.receiveOctet]
  split
  · exact ⟨id, fun ⟨hfifo, hoctets, hqueue, hport, hread⟩ =>
      ⟨hfifo, hoctets, hqueue, fun _ _ => hport c hp, hread⟩, id⟩
  · rename_i new _
    refine ⟨id, fun ⟨hfifo, hoctets, hqueue, hport, hread⟩ => ⟨hfifo, hoctets, ?_, nofun, ?_⟩, fun hc => ?_⟩
    · simpa using hport c hp
    · refine hread.imp_right fun ⟨hpos, hlt, q, rest, hq, hcode, hcount⟩ =>
        ⟨hpos, hlt, q, rest ++ [new], ?_, hcode, hcount⟩
      exact congrArg (· ++ [new]) hq
    · unfold State.ConditionFits
      rw [hconfig]
      exact hc

theorem State.lastOctet_queuesStay (s : State) (o : Octet) : s.QueuesStay (s.lastOctet o) := by
  unfold State.lastOctet
  split
  · split
    · exact State.receiveOctet_queuesStay ‹_› o
    · exact .refl s
  all_goals exact .refl s

theorem State.octetClocked_queuesStay (s : State) (o : Octet) : s.QueuesStay (s.octetClocked o) := by
  unfold State.octetClocked
  split
  · exact .refl s
  · exact State.receiveOctet_queuesStay ‹_› o
  · exact .refl s
  · exact .of_port (port := .finished) nofun rfl rfl rfl rfl rfl
  · exact .of_port (port := .answering _) nofun rfl rfl rfl rfl rfl
  all_goals exact .refl s

/-! ### Every command -/

/-- The cleared part: every queue is empty and no condition record is pending (R140, R190, R203). -/
theorem State.cleared_queuesStay (s : State) (inReset : Bool) : s.QueuesStay (s.cleared inReset) := by
  refine ⟨fun _ => ?_, fun _ => ?_, fun _ => nofun⟩
  · exact ⟨Nat.zero_le _, fun _ => Nat.zero_le _, Nat.zero_le _, nofun, Nat.zero_le _, fun h => absurd rfl h⟩
  · exact ⟨Nat.zero_le _, Nat.zero_le _, Nat.zero_le _, nofun, .inl rfl⟩

theorem exec_queuesStay (c : Instr) (s : State) : ∃ u, exec c s = .next u ∧ s.QueuesStay u := by
  cases c with
  | reset => exact ⟨_, rfl, s.cleared_queuesStay true⟩
  | resetRelease address rate => exact ⟨_, rfl, s.cleared_queuesStay false⟩
  | csnFall => exact ⟨_, rfl, s.csnFalls_queuesStay⟩
  | csnRise => exact ⟨_, rfl, s.csnRises_queuesStay⟩
  | commandComplete mosi => exact ⟨_, rfl, s.lastOctet_queuesStay mosi⟩
  | spiOctetClocked mosi => exact ⟨_, rfl, s.octetClocked_queuesStay mosi⟩
  | unknownCommand =>
    exact ⟨_, rfl,
      State.takeCommand_queuesStay_of_kept (named := none) (by decide) (fun _ t => .refuse t (by simp)) s⟩
  | getStation => exact ⟨_, rfl, s.getStation_queuesStay⟩
  | configure =>
    exact ⟨_, rfl, State.takeCommand_queuesStay (named := some .configure) nofun
      (fun params _ h => configureItem_kept params (h.resolve_right (by decide))) s⟩
  | join => exact ⟨_, rfl, State.takeCommand_queuesStay_of_kept (by decide) joinItem_kept s⟩
  | leave => exact ⟨_, rfl, State.takeCommand_queuesStay_of_kept (by decide) leaveItem_kept s⟩
  | resume => exact ⟨_, rfl, State.takeCommand_queuesStay_of_kept (by decide) resumeItem_kept s⟩
  | clearCondition => exact ⟨_, rfl, State.takeCommand_queuesStay_of_kept (by decide) clearConditionItem_kept s⟩
  | readPoint => exact ⟨_, rfl, State.takeCommand_queuesStay_of_kept (by decide) readPointItem_kept s⟩
  | writePoint => exact ⟨_, rfl, State.takeCommand_queuesStay_of_kept (by decide) writePointItem_kept s⟩
  | claimPoint => exact ⟨_, rfl, State.takeCommand_queuesStay_of_kept (by decide) claimPointItem_kept s⟩
  | releasePoint => exact ⟨_, rfl, State.takeCommand_queuesStay_of_kept (by decide) releasePointItem_kept s⟩
  | recallPoint => exact ⟨_, rfl, State.takeCommand_queuesStay_of_kept (by decide) recallPointItem_kept s⟩
  | subscribe => exact ⟨_, rfl, State.takeCommand_queuesStay_of_kept (by decide) (subscriptionItem_kept true) s⟩
  | unsubscribe => exact ⟨_, rfl, State.takeCommand_queuesStay_of_kept (by decide) (subscriptionItem_kept false) s⟩
  | readEvent => exact ⟨_, rfl, State.takeCommand_queuesStay_of_kept (by decide) readEventItem_kept s⟩
  | readPeer => exact ⟨_, rfl, State.takeCommand_queuesStay_of_kept (by decide) readPeerItem_kept s⟩
  | lineIdleAfterSeeking => exact ⟨_, rfl, s.seekingDone_keepsQueues.queuesStay⟩
  | startBit => exact ⟨_, rfl, s.startBit_keepsQueues.queuesStay⟩
  | characterReceived octet stopHigh => exact ⟨_, rfl, (s.character_keepsQueues octet stopHigh).queuesStay⟩
  | frameEnd => exact ⟨_, rfl, s.frameEnds_keepsQueues.queuesStay⟩
  | frameEndedWithoutCollision => exact ⟨_, rfl, s.ownFrameEnds_keepsQueues.queuesStay⟩
  | collision => exact ⟨_, rfl, s.collides_keepsQueues.queuesStay⟩
  | urgentSlot => exact ⟨_, rfl, s.urgentSlot_keepsQueues.queuesStay⟩
  | rankedSlot => exact ⟨_, rfl, s.rankedSlot_keepsQueues.queuesStay⟩
  | frameProcessorTakesFrame => exact ⟨_, rfl, s.takeNextFrame_keepsQueues.queuesStay⟩
  | rosterFrameItem | publishRecord | claimHeard | assertHeard | releaseHeard | recallHeard =>
    refine ⟨_, rfl, (State.takeItem_keepsQueues (fun f item effect t he => ?_) s).queuesStay⟩
    cases item <;> cases he
    simp only [State.rosterItem_keepsQueues, State.publishRecord_keepsQueues, State.claimHeard_keepsQueues,
      State.assertHeard_keepsQueues, State.releaseHeard_keepsQueues, State.recallHeard_keepsQueues]
  | claimWindowExpiry point => exact ⟨_, rfl, (s.claimWindowExpires_keepsQueues point).queuesStay⟩
  | refreshTimerExpiry point => exact ⟨_, rfl, (s.refreshExpires_keepsQueues point).queuesStay⟩
  | staleTimerExpiry point => exact ⟨_, rfl, (s.staleExpires_keepsQueues point).queuesStay⟩
  | contenderTimerExpiry point => exact ⟨_, rfl, (s.contenderExpires_keepsQueues point).queuesStay⟩
  | listenTimerExpiry => exact ⟨_, rfl, s.listenExpires_keepsQueues.queuesStay⟩
  | presenceTimerExpiry => exact ⟨_, rfl, s.presenceExpires_keepsQueues.queuesStay⟩
  | leaseExpiry => exact ⟨_, rfl, s.leaseExpires_keepsQueues.queuesStay⟩
  | silenceTimer2P peer => exact ⟨_, rfl, (s.silence2P_keepsQueues peer).queuesStay⟩
  | silenceTimer5P peer => exact ⟨_, rfl, (s.silence5P_keepsQueues peer).queuesStay⟩

/-- Settles O56: a millisecond keeps the queues, and so does every command by `exec_queuesStay`. -/
theorem queuesStayFit : Obligations.QueuesStayFit := by
  unfold Obligations.QueuesStayFit
  intro s t ht
  show s.QueuesStay t
  match hp : s.pending with
  | [] =>
    have hidle : Host.Outcome.next (φ := Fault) (ρ := Refusal) s.tick = .next t := by
      rw [← ht, step, hp]
    cases hidle
    exact s.tick_keepsQueues.queuesStay
  | c :: rest =>
    obtain ⟨u, hu, hstay⟩ := exec_queuesStay c { s with pending := rest }
    have hnext : Host.Outcome.next (φ := Fault) (ρ := Refusal) u = .next t := by
      rw [← ht, ← hu, step, hp]
    cases hnext
    exact hstay

end Sys2Proof.Machine
end

section
/-! SUPPORT. Characters that form a frame, characters read back, and a received frame's reference sequence and items
(O27, O31, O29, O37). -/

namespace Sys2Proof.Machine

/-! ### Commands one after the other -/

theorem execAll_cons {c : Instr} {s t : State} (h : exec c s = .next t) (cs : List Instr) :
    execAll (c :: cs) s = execAll cs t := by
  simp only [execAll, h]

theorem execAll_append {cs : List Instr} {s t : State} (h : execAll cs s = .next t) (ds : List Instr) :
    execAll (cs ++ ds) s = execAll ds t := by
  induction cs generalizing s with
  | nil =>
    cases h
    rfl
  | cons c cs ih =>
    cases hc : exec c s with
    | next u =>
      rw [execAll_cons hc] at h
      rw [List.cons_append, execAll_cons hc]
      exact ih h
    | fault f => simp [execAll, hc] at h
    | refused r => simp [execAll, hc] at h

/-! ### The rows of the line -/

theorem exec_startBit (s : State) : exec .startBit s = .next s.startBit := rfl
theorem exec_characterReceived (s : State) (o : Octet) (high : Bool) :
    exec (.characterReceived o high) s = .next (s.character o high) := rfl
theorem exec_lineIdleAfterSeeking (s : State) : exec .lineIdleAfterSeeking s = .next s.seekingDone := rfl
theorem exec_frameEnd (s : State) : exec .frameEnd s = .next s.frameEnds := rfl
theorem exec_frameEndedWithoutCollision (s : State) : exec .frameEndedWithoutCollision s = .next s.ownFrameEnds := rfl
theorem exec_collision (s : State) : exec .collision s = .next s.collides := rfl

theorem State.seekingDone_busy {s : State} (h : s.line.gap = none) : s.seekingDone = s := by
  simp [State.seekingDone, Line.quiet, h]

theorem State.ownFrameEnds_busy {s : State} (h : s.line.gap = none) : s.ownFrameEnds = s := by
  have hquiet : s.line.quiet = false := by simp [Line.quiet, h]
  unfold State.ownFrameEnds
  split
  · split
    · simp [hquiet]
    all_goals rfl
  · rfl

/-! ### A frame while it is received -/

/-- A frame of which these octets have been received, with the gap timer as given (R131). -/
def State.receiving (s : State) (octets : List Octet) (gap : Option Nat) : State :=
  { s with line := { s.line with state := .inFrame, octets := octets, gap := gap, ladder := none } }

theorem State.startBit_idle {s : State} (h : s.line.state = .idle) : s.startBit = s.receiving [] none := by
  simp only [State.startBit, h]
  rfl

theorem State.startBit_receiving (s : State) (octets : List Octet) (gap : Option Nat) :
    (s.receiving octets gap).startBit = s.receiving octets none := rfl

/-- Outside OFF and IDLE a start bit stops the gap timer (R130). -/
theorem State.startBit_busy {s : State} (hoff : s.line.state ≠ .off) (hidle : s.line.state ≠ .idle) :
    s.startBit = { s with line := { s.line with gap := none } } := by
  unfold State.startBit
  split
  · exact absurd ‹_› hidle
  iterate 4 rfl
  · exact absurd ‹_› hoff

/-- A character with its stop bit high joins the octets, up to 55 (R129, R131). -/
theorem State.character_joins {octets : List Octet} (h : octets.length < 55) (s : State) (gap : Option Nat)
    (o : Octet) : (s.receiving octets gap).character o true = s.receiving (octets ++ [o]) (some 0) :=
  if_pos ⟨rfl, h⟩

/-- A character with its stop bit low, or a 56th, makes the frame DISCARDING (R129, R131). -/
theorem State.character_spoils {octets : List Octet} {high : Bool} (h : high = false ∨ octets.length = 55) (s : State)
    (gap : Option Nat) (o : Octet) :
    (s.receiving octets gap).character o high = { s with
      line := { s.line with state := .discarding false, octets := [], gap := some 0, ladder := none } } := by
  refine if_neg fun ⟨hhigh, hroom⟩ => ?_
  rcases h with h | h
  · exact absurd hhigh (by simp [h])
  · exact absurd hroom (by simp [State.receiving, h, Config.frameMax])

/-- In SEEKING and DISCARDING a character restarts the gap timer (R130). -/
theorem State.character_passes {s : State}
    (h : s.line.state = .seeking ∨ s.line.state = .discarding false ∨ s.line.state = .discarding true) (o : Octet)
    (high : Bool) : s.character o high = { s with line := { s.line with gap := some 0 } } := by
  rcases h with h | h | h <;> simp only [State.character, h]

/-- The commands of characters received whole (R129). -/
def heardCommands (octets : List Octet) : List Instr :=
  octets.flatMap fun x => [Instr.startBit, .characterReceived x true]

/-- The octets received of a frame grow by those heard, up to 55. -/
theorem execAll_heard {octets : List Octet} (s : State) {before : List Octet}
    (h : before.length + octets.length ≤ 55) :
    execAll (heardCommands octets) (s.receiving before (some 0)) = .next (s.receiving (before ++ octets) (some 0)) := by
  induction octets generalizing before with
  | nil => rw [List.append_nil]; rfl
  | cons x xs ih =>
    rw [List.length_cons] at h
    calc execAll (heardCommands (x :: xs)) (s.receiving before (some 0))
      _ = execAll (heardCommands xs) ((s.receiving before none).character x true) := rfl
      _ = execAll (heardCommands xs) (s.receiving (before ++ [x]) (some 0)) := by
        rw [State.character_joins (by omega)]
      _ = .next (s.receiving (before ++ x :: xs) (some 0)) := by
        rw [ih (by simp; omega), List.append_assoc, List.singleton_append]

/-- On an idle line characters begin a frame (R131, R147). -/
theorem execAll_heard_idle {s : State} (hi : s.line.state = .idle) {x : Octet} {xs : List Octet}
    (h : (x :: xs).length ≤ 55) :
    execAll (heardCommands (x :: xs)) s = .next (s.receiving (x :: xs) (some 0)) := by
  rw [List.length_cons] at h
  calc execAll (heardCommands (x :: xs)) s
    _ = execAll (heardCommands xs) (s.startBit.character x true) := rfl
    _ = execAll (heardCommands xs) (s.receiving [x] (some 0)) := by
      rw [State.startBit_idle hi, State.character_joins (by simp)]
      rfl
    _ = .next (s.receiving (x :: xs) (some 0)) := execAll_heard s (by simp; omega)

/-- The frame's next start bit, after the octets heard on an idle line. -/
theorem execAll_heard_startBit {s : State} (hi : s.line.state = .idle) {octets : List Octet} (h : octets.length ≤ 55) :
    ∃ t, execAll (heardCommands octets) s = .next t ∧ t.startBit = s.receiving octets none := by
  cases octets with
  | nil => exact ⟨s, rfl, State.startBit_idle hi⟩
  | cons x xs => exact ⟨_, execAll_heard_idle hi h, State.startBit_receiving s (x :: xs) (some 0)⟩

/-- Settles O27: characters are taken one by one by `execAll_heard`; the other clauses are the rows' own cases. -/
theorem charactersFormAFrame : Obligations.CharactersFormAFrame := by
  unfold Obligations.CharactersFormAFrame
  intro s octets o high heard
  refine ⟨fun hi hne h55 => ?_, fun hi h55 hbad => ?_, fun h => ?_, fun hoff hidle => ?_, fun hg c hc => ?_,
    fun hs hg => ?_, fun hoff c hc => ?_⟩
  · obtain ⟨x, xs, rfl⟩ := List.exists_cons_of_ne_nil hne
    exact execAll_heard_idle hi h55
  · obtain ⟨t, ht, hbit⟩ := execAll_heard_startBit hi h55
    rw [execAll_append (cs := heard) ht, execAll_cons (exec_startBit t), hbit,
      execAll_cons (exec_characterReceived _ o high), State.character_spoils hbad]
    rfl
  · rw [exec_characterReceived, State.character_passes h]
  · rw [exec_startBit, State.startBit_busy hoff hidle]
  · simp only [List.mem_cons, List.not_mem_nil, or_false] at hc
    rcases hc with rfl | rfl | rfl
    · rw [exec_lineIdleAfterSeeking, State.seekingDone_busy hg]
    · rw [exec_frameEnd, State.frameEnds_busy hg]
    · rw [exec_frameEndedWithoutCollision, State.ownFrameEnds_busy hg]
  · exact congrArg Host.Outcome.next (if_pos ⟨hs, hg⟩)
  · simp only [List.mem_cons, List.not_mem_nil, or_false] at hc
    rcases hc with rfl | rfl | rfl | rfl
    · simp only [exec_startBit, State.startBit, hoff]
    · simp only [exec_characterReceived, State.character, hoff]
    · simp only [exec_lineIdleAfterSeeking, State.seekingDone, hoff, reduceCtorEq, false_and, if_false]
    · simp only [exec_frameEnd, State.frameEnds, hoff, ite_self]

/-! ### The own frame read back -/

theorem State.character_sending {s : State} (h : s.line.state = .sending) (o : Octet) (high : Bool) :
    s.character o high = s.characterReadBack o high := by
  simp only [State.character, h]

section
variable {s : State} {b : BuiltFrame} (hf : s.tx.frame = some b) (o : Octet) (high : Bool)
include hf

/-- A character is compared with the one sent (R150, R151). -/
theorem State.characterReadBack_compared {sent : Octet} (hs : b.frame.encode[b.readBack]? = some sent) :
    s.characterReadBack o high =
      if high = true ∧ o = sent then
        { s with
          tx := { s.tx with frame := some { b with readBack := b.readBack + 1 } }
          line := { s.line with gap := some 0 } }
      else s.collides := by
  simp only [State.characterReadBack, hf, hs]

/-- After the last own character there is nothing to compare with (log entry 14). -/
theorem State.characterReadBack_whole (hb : b.frame.encode.length ≤ b.readBack) :
    s.characterReadBack o high = { s with line := { s.line with gap := some 0 } } := by
  have hnone : b.frame.encode[b.readBack]? = none := List.getElem?_eq_none hb
  simp only [State.characterReadBack, hf, hnone]

end

theorem State.collides_whole {s : State} {b : BuiltFrame} (hf : s.tx.frame = some b)
    (hb : b.frame.encode.length ≤ b.readBack) : s.collides = s := by
  have hwhole : b.readWhole = true := decide_eq_true hb
  unfold State.collides
  split
  · rename_i b' _ hb'
    cases hf.symm.trans hb'
    split
    · rw [if_pos hwhole]
    all_goals rfl
  · rfl

/-- Settles O31, by the characters of the frame and after the last of them. -/
theorem ownCharactersAreComparedWithTheFrame : Obligations.OwnCharactersAreComparedWithTheFrame := by
  unfold Obligations.OwnCharactersAreComparedWithTheFrame
  intro s b slot o high hl hf _
  simp only [exec_characterReceived, exec_collision, State.character_sending hl]
  refine ⟨fun sent hs => ⟨fun h => ?_, fun h => ?_⟩, fun hb => ⟨?_, ?_⟩⟩
  · rw [State.characterReadBack_compared hf o true hs, if_pos ⟨rfl, h⟩]
  · rw [State.characterReadBack_compared hf o high hs, if_neg]
    rintro ⟨rfl, heq⟩
    exact h.elim (absurd heq) (absurd · (by simp))
  · rw [State.characterReadBack_whole hf o high hb]
  · rw [State.collides_whole hf hb]

/-! ### The reference sequence -/

/-- The frame of a source that is being applied, if there is one. -/
def Receiver.applied (r : Receiver) (x : Addr) : List Frame :=
  match r.applying with
  | some a => if a.frame.source = x then [a.frame] else []
  | none => []

theorem State.referenceSequence_eq (s : State) (x : Addr) :
    s.referenceSequence x =
      match (s.rx.applied x ++ s.rx.fifo.filter (·.source = x)).getLast? with
      | some f => some f.sequence
      | none => if (s.peer x).state = .present ∨ (s.peer x).state = .silent then (s.peer x).lastSeq else none := rfl

/-- A frame that waits is the newest of its source when none of that source follows it. -/
theorem filter_source_getLast {fifo before after : List Frame} {f : Frame} {x : Addr}
    (hq : fifo = before ++ f :: after) (hf : f.source = x) (ha : ∀ g ∈ after, g.source ≠ x) :
    fifo.filter (·.source = x) = before.filter (·.source = x) ++ [f] := by
  have hafter : after.filter (·.source = x) = [] := List.filter_eq_nil_iff.mpr fun g hg => by simpa using ha g hg
  rw [hq, List.filter_append, List.filter_cons_of_pos (by simpa using hf), hafter]

/-- Settles O29: the newest frame of the source is the last of those that wait, with the one being applied before
them. -/
theorem duplicateReferenceIsTheNewestFrame : Obligations.DuplicateReferenceIsTheNewestFrame := by
  unfold Obligations.DuplicateReferenceIsTheNewestFrame
  intro s x
  refine ⟨fun before f after hq hf ha => ?_, fun hnone => ?_⟩
  · rw [State.referenceSequence_eq, filter_source_getLast hq hf ha, ← List.append_assoc, List.getLast?_concat]
  · have hempty : s.rx.fifo.filter (·.source = x) = [] :=
      List.filter_eq_nil_iff.mpr fun g hg => by simpa using hnone g hg
    rw [State.referenceSequence_eq, hempty, List.append_nil]
    refine ⟨fun a ha hsource => ?_, fun hother => ?_⟩
    · have happlied : s.rx.applied x = [a.frame] := by simp only [Receiver.applied, ha, hsource, if_true]
      rw [happlied]
      rfl
    · have happlied : s.rx.applied x = [] := by
        unfold Receiver.applied
        split
        · exact if_neg (hother _ ‹_›)
        · rfl
      rw [happlied]
      refine ⟨fun h => if_pos h, fun h => if_neg ?_⟩
      rcases h with h | h <;> simp [h]

/-! ### The items of a frame -/

/-- Settles O37, by the kind of the frame. -/
theorem frameItemsInOrder : Obligations.FrameItemsInOrder := by
  unfold Obligations.FrameItemsInOrder
  intro s f fifo
  refine ⟨fun ha hq => ?_, fun h => ?_⟩
  · have htake : s.takeNextFrame =
        { s with rx := { fifo := fifo, applying := some { frame := f, items := f.items s.own } } } := by
      simp only [State.takeNextFrame, ha, hq]
    refine (congrArg Host.Outcome.next htake).trans ?_
    unfold Frame.items
    cases f.body <;> rfl
  · refine congrArg Host.Outcome.next ?_
    unfold State.takeNextFrame
    split
    · rename_i ha hq
      exact (h.elim (absurd ha) fun he => absurd (he.symm.trans hq) (by simp))
    · rfl

end Sys2Proof.Machine
end

section
/-! SUPPORT. The CRC bit by bit, and frames as octets and back (O53). -/

namespace Sys2Proof

/-! ### Octets of quantities -/

theorem joinOctets_toNat (hi lo : Octet) : (joinOctets hi lo).toNat = hi.toNat * 256 + lo.toNat := by
  have happend : (joinOctets hi lo).toNat = hi.toNat <<< 8 ||| lo.toNat := BitVec.toNat_append hi lo
  rw [happend, ← Nat.shiftLeft_add_eq_or_of_lt lo.isLt, Nat.shiftLeft_eq]

theorem hiOctet_toNat (w : BitVec 16) : (hiOctet w).toNat = w.toNat / 256 := by
  have hw := w.isLt
  simp only [hiOctet, BitVec.extractLsb'_toNat, Nat.shiftRight_eq_div_pow]
  omega

theorem loOctet_toNat (w : BitVec 16) : (loOctet w).toNat = w.toNat % 256 := by
  simp only [loOctet, BitVec.extractLsb'_toNat, Nat.shiftRight_zero]

@[simp] theorem joinOctets_hi_lo (w : BitVec 16) : joinOctets (hiOctet w) (loOctet w) = w := by
  apply BitVec.eq_of_toNat_eq
  rw [joinOctets_toNat, hiOctet_toNat, loOctet_toNat]
  omega

@[simp] theorem hiOctet_joinOctets (hi lo : Octet) : hiOctet (joinOctets hi lo) = hi := by
  apply BitVec.eq_of_toNat_eq
  rw [hiOctet_toNat, joinOctets_toNat]
  omega

@[simp] theorem loOctet_joinOctets (hi lo : Octet) : loOctet (joinOctets hi lo) = lo := by
  apply BitVec.eq_of_toNat_eq
  rw [loOctet_toNat, joinOctets_toNat]
  omega

theorem octetOf_toNat {k : Nat} (h : k < 256) : (octetOf k).toNat = k := Nat.mod_eq_of_lt h

@[simp] theorem octetOf_toNat_self (o : Octet) : octetOf o.toNat = o :=
  BitVec.eq_of_toNat_eq (octetOf_toNat o.isLt)

theorem pointOctet_eq_ofNat (p : PointId) : pointOctet p = BitVec.ofNat 8 p.val :=
  BitVec.eq_of_toNat_eq (Nat.mod_eq_of_lt p.isLt).symm

@[simp] theorem pointOctet_octetPoint (o : Octet) : pointOctet (octetPoint o) = o := rfl

theorem octetAddr_addrOctet {n : SegmentSize} {x : Addr} (h : x.val < n.toNat) :
    octetAddr n (addrOctet x) = some x := by
  have hx : (addrOctet x).toNat = x.val := octetOf_toNat (by omega)
  rw [octetAddr, hx, if_pos h]
  simp

theorem octetAddr_eq_some {n : SegmentSize} {o : Octet} {x : Addr} (h : octetAddr n o = some x) :
    x.val < n.toNat ∧ o = addrOctet x := by
  unfold octetAddr at h
  split at h
  · rename_i ho
    have hn : n.toNat ≤ 32 := by cases n <;> decide
    cases h
    have hval : (Fin.ofNat 32 o.toNat).val = o.toNat := Nat.mod_eq_of_lt (by omega)
    exact ⟨by rwa [hval], by rw [addrOctet, hval, octetOf_toNat_self]⟩
  · exact absurd h (by simp)

@[simp] theorem octetSegment_octet (n : SegmentSize) : octetSegment n.octet = some n := by cases n <;> rfl

theorem octetSegment_eq_some {o : Octet} {n : SegmentSize} (h : octetSegment o = some n) : o = n.octet := by
  unfold octetSegment at h
  split_ifs at h <;> cases h <;> assumption

@[simp] theorem octetPresence_octet (st : PresenceState) : octetPresence st.octet = some st := by cases st <;> rfl

theorem octetPresence_eq_some {o : Octet} {st : PresenceState} (h : octetPresence o = some st) : o = st.octet := by
  unfold octetPresence at h
  split_ifs at h <;> cases h <;> assumption

/-! ### The CRC, one bit at a time -/

/-- One bit enters the register at its top (R133). -/
def crcBit (r : BitVec 16) (bit : Bool) : BitVec 16 :=
  if r.getLsbD 15 ≠ bit then (r <<< 1) ^^^ 0x1021 else r <<< 1

/-- The bits of an octet, most significant first. -/
def Octet.bits (o : Octet) : List Bool := [7, 6, 5, 4, 3, 2, 1, 0].map o.getLsbD

theorem joinOctets_shift (o : Octet) : joinOctets o 0 <<< 1 = joinOctets (o <<< 1) 0 := by
  have hzero : (0 : Octet).toNat = 0 := rfl
  apply BitVec.eq_of_toNat_eq
  simp only [BitVec.toNat_shiftLeft, joinOctets_toNat, Nat.shiftLeft_eq, hzero]
  omega

/-- An octet entered whole at the top of the register lets its first bit in with the next shift; the rest stays on top
(R133). -/
theorem crcShift_xor_joinOctets (r : BitVec 16) (o : Octet) :
    crcShift (r ^^^ joinOctets o 0) = crcBit r (o.getLsbD 7) ^^^ joinOctets (o <<< 1) 0 := by
  have htop : (joinOctets o 0).getLsbD 15 = o.getLsbD 7 :=
    BitVec.getLsbD_append (x := o) (y := (0 : Octet)) (i := 15)
  have hmsb : (r ^^^ joinOctets o 0).msb = (r.getLsbD 15 ^^ o.getLsbD 7) := by
    rw [BitVec.msb_eq_getLsbD_last, BitVec.getLsbD_xor, htop]
  rw [crcShift, hmsb, BitVec.shiftLeft_xor_distrib, joinOctets_shift, crcBit]
  by_cases h : r.getLsbD 15 = o.getLsbD 7
  · rw [h, Bool.xor_self, if_neg Bool.false_ne_true, if_neg (not_not_intro rfl)]
  · rw [if_pos (by simpa only [Bool.xor_iff_ne] using h), if_pos h, BitVec.xor_assoc, BitVec.xor_assoc,
      BitVec.xor_comm 0x1021]

theorem crcOctet_eq_bits (r : BitVec 16) (o : Octet) : crcOctet r o = o.bits.foldl crcBit r := by
  have hout : joinOctets (o <<< 1 <<< 1 <<< 1 <<< 1 <<< 1 <<< 1 <<< 1 <<< 1) 0 = 0 := by
    have hshift : o <<< 1 <<< 1 <<< 1 <<< 1 <<< 1 <<< 1 <<< 1 <<< 1 = 0 := by
      simp only [← BitVec.shiftLeft_add]
      exact BitVec.shiftLeft_eq_zero (by decide)
    rw [hshift]
    rfl
  simp only [crcOctet, Nat.repeat, crcShift_xor_joinOctets, hout]
  simp [Octet.bits]

theorem crcOf_eq_bits (octets : List Octet) : crcOf octets = (octets.flatMap Octet.bits).foldl crcBit 0xFFFF := by
  rw [List.foldl_flatMap]
  exact congrArg (fun f => octets.foldl f 0xFFFF) (funext fun r => funext fun o => crcOctet_eq_bits r o)

/-! ### Records of a PUBLISH -/

theorem PublishRecord.wf_iff (r : PublishRecord) : r.wf = true ↔ 1 ≤ r.octets.length ∧ r.octets.length ≤ 8 :=
  Bool.and_eq_true_iff.trans (and_congr decide_eq_true_iff decide_eq_true_iff)

theorem readRecords_encode {records : List PublishRecord} (h : ∀ r ∈ records, r.wf = true) :
    readRecords records.length (records.flatMap PublishRecord.encode) = some records := by
  induction records with
  | nil => rfl
  | cons r rs ih =>
    obtain ⟨hlo, hhi⟩ := r.wf_iff.mp (h r List.mem_cons_self)
    have hlen : (octetOf r.octets.length).toNat = r.octets.length := octetOf_toNat (by omega)
    have hrest := ih fun r' hr' => h r' (List.mem_cons_of_mem _ hr')
    simp only [List.flatMap_cons, PublishRecord.encode, List.cons_append, List.length_cons, readRecords, hlen]
    rw [if_pos ⟨hlo, hhi, by simp⟩, List.drop_left, List.take_left, hrest]
    simp

theorem readRecords_eq_some {k : Nat} {octets : List Octet} {records : List PublishRecord}
    (h : readRecords k octets = some records) :
    records.length = k ∧ (∀ r ∈ records, r.wf = true) ∧ octets = records.flatMap PublishRecord.encode := by
  induction k generalizing octets records with
  | zero =>
    cases octets with
    | nil =>
      cases h
      exact ⟨rfl, nofun, rfl⟩
    | cons => exact absurd h (by simp [readRecords])
  | succ k ih =>
    unfold readRecords at h
    split at h
    · exact absurd ‹k + 1 = 0› (by simp)
    · exact absurd h (by simp)
    · rename_i k' p gh gl len rest hk
      cases hk
      split at h
      · rename_i hlen
        obtain ⟨hlo, hhi, hin⟩ := hlen
        obtain ⟨rs, hrs, rfl⟩ := Option.map_eq_some_iff.mp h
        obtain ⟨hcount, hwf, hdrop⟩ := ih hrs
        have htake : (rest.take len.toNat).length = len.toNat := List.length_take_of_le hin
        refine ⟨by simp [hcount], ?_, ?_⟩
        · intro r hr
          rcases List.mem_cons.mp hr with rfl | hr
          · exact (PublishRecord.wf_iff _).mpr (by simpa [htake] using ⟨hlo, hhi⟩)
          · exact hwf r hr
        · rw [List.flatMap_cons, ← hdrop]
          simp [PublishRecord.encode, htake]
      · exact absurd h (by simp)
    · exact absurd h (by simp)

theorem flatMap_encode_length {records : List PublishRecord} (h : ∀ r ∈ records, r.wf = true) :
    (records.flatMap PublishRecord.encode).length ≤ 12 * records.length := by
  induction records with
  | nil => simp
  | cons r rs ih =>
    obtain ⟨-, hhi⟩ := r.wf_iff.mp (h r List.mem_cons_self)
    have hrest := ih fun r' hr' => h r' (List.mem_cons_of_mem _ hr')
    simp only [List.flatMap_cons, List.length_append, List.length_cons, PublishRecord.encode]
    omega

/-! ### Bodies -/

/-- The body octets that read as a body are those it sends, but for the flags octet of a PRESENCE (R216). -/
def Body.readFrom (b : Body) (body : List Octet) : Prop :=
  match b with
  | .presence _ fresh _ _ _ => ∃ flags : Octet, flags.getLsbD 0 = fresh ∧ body = b.encode.set 1 flags
  | _ => body = b.encode

theorem readBody_encode {n : SegmentSize} {b : Body} (h : b.wf n = true) :
    readBody n b.kind.code b.destination b.encode = some b := by
  cases b with
  | presence st fresh held size pUnits =>
    simp only [Body.wf, Bool.and_eq_true, decide_eq_true_eq] at h
    obtain ⟨hheld, hperiod⟩ := h
    have hoctet : (octetOf held).toNat = held := octetOf_toNat (lt_of_le_of_lt hheld (by decide))
    cases fresh <;>
      simp [readBody, Body.kind, FrameKind.code, Body.destination, Body.encode, Config.broadcast, hoctet, hheld,
        hperiod]
  | publish records =>
    simp only [Body.wf, Bool.and_eq_true, decide_eq_true_eq, List.all_eq_true] at h
    obtain ⟨⟨hlo, hhi⟩, hwf⟩ := h
    have hoctet : (octetOf records.length).toNat = records.length :=
      octetOf_toNat (lt_of_le_of_lt hhi (by decide))
    simp [readBody, Body.kind, FrameKind.code, Body.destination, Body.encode, Config.broadcast, hoctet, hlo, hhi,
      readRecords_encode hwf]
  | claim p => rfl
  | assert p length => rfl
  | release p => rfl
  | farewell => rfl
  | _ =>
    -- RECALL, the one kind left.
    rename_i destination points
    simp only [Body.wf, Bool.and_eq_true, decide_eq_true_eq] at h
    obtain ⟨⟨hdest, hlo⟩, hhi⟩ := h
    have hoctet : (octetOf points.length).toNat = points.length := octetOf_toNat (lt_of_le_of_lt hhi (by decide))
    simp [readBody, Body.kind, FrameKind.code, Body.destination, Body.encode, hoctet, hlo, hhi,
      octetAddr_addrOctet hdest, Function.comp_def]

/-- Octets that read as a body have its kind and destination, and the body fits (R132, R135, R216). -/
theorem readBody_eq_some {n : SegmentSize} {kind destination : Octet} {body : List Octet} {b : Body}
    (h : readBody n kind destination body = some b) :
    b.wf n = true ∧ kind = b.kind.code ∧ destination = b.destination ∧ b.readFrom body := by
  simp only [readBody, ne_eq, ite_not] at h
  split_ifs at h with hrecall hdest hpresence hpublish
  · split at h
    · rename_i d count ids hd
      split_ifs at h with hids
      obtain ⟨hlo, hhi, hlen⟩ := hids
      obtain ⟨hn, rfl⟩ := octetAddr_eq_some hd
      cases h
      refine ⟨?_, hrecall, rfl, ?_⟩
      · simp [Body.wf, hn, hlen, hlo, hhi]
      · simp [Body.readFrom, Body.encode, hlen, Function.comp_def]
    · exact absurd h (by simp)
  · split at h
    · rename_i st flags held size pUnits
      split at h
      · rename_i st' size' hst hsize
        split_ifs at h with hfit
        cases h
        rw [octetPresence_eq_some hst, octetSegment_eq_some hsize]
        exact ⟨by simpa [Body.wf] using hfit, hpresence, hdest, flags, rfl, by simp [Body.encode]⟩
      · exact absurd h (by simp)
    · exact absurd h (by simp)
  · split at h
    · rename_i count rest
      split_ifs at h with hcount
      obtain ⟨records, hrecords, rfl⟩ := Option.map_eq_some_iff.mp h
      obtain ⟨hlen, hwf, rfl⟩ := readRecords_eq_some hrecords
      refine ⟨?_, hpublish, hdest, ?_⟩
      · simpa [Body.wf, hlen] using ⟨hcount, hwf⟩
      · simp [Body.readFrom, Body.encode, hlen]
    · exact absurd h (by simp)
  all_goals
    split at h
    · cases h
      exact ⟨rfl, by assumption, hdest, rfl⟩
    · exact absurd h (by simp)

/-! ### Frames -/

theorem Frame.wf_iff (n : SegmentSize) (f : Frame) : f.wf n = true ↔ f.source.val < n.toNat ∧ f.body.wf n = true := by
  simp [Frame.wf]

theorem Body.encode_length_le {n : SegmentSize} {b : Body} (h : b.wf n = true) : b.encode.length ≤ 49 := by
  cases b with
  | publish records =>
    simp only [Body.wf, Bool.and_eq_true, decide_eq_true_eq, List.all_eq_true] at h
    obtain ⟨⟨-, hhi⟩, hwf⟩ := h
    have hfour : records.length ≤ 4 := hhi
    have hlen := flatMap_encode_length hwf
    simp only [Body.encode, List.length_cons]
    omega
  | presence | claim | assert | release | farewell => simp [Body.encode]
  | _ =>
    -- RECALL, the one kind left.
    rename_i destination points
    simp only [Body.wf, Bool.and_eq_true, decide_eq_true_eq] at h
    have height : points.length ≤ 8 := h.2
    simp only [Body.encode, List.length_cons, List.length_map]
    omega

theorem Frame.encode_length (f : Frame) : f.encode.length = f.body.encode.length + 6 := by
  simp [Frame.encode, Frame.covered, octets16]

/-- All but the CRC of a frame's octets (R133). -/
theorem Frame.take_encode (f : Frame) : f.encode.take (f.encode.length - 2) = f.covered := by
  simp [Frame.encode, octets16]

theorem Frame.crcMatches_encode (f : Frame) : crcMatches f.encode = true := by
  have hdrop : f.encode.drop (f.encode.length - 2) = octets16 (crcOf f.covered) := by
    simp [Frame.encode, octets16]
  rw [crcMatches, f.take_encode, hdrop, beq_self_eq_true]

theorem readFrame_encode {n : SegmentSize} {f : Frame} (h : f.wf n = true) : readFrame n f.encode = some f := by
  obtain ⟨hsource, hbody⟩ := (Frame.wf_iff n f).mp h
  simp only [readFrame, f.take_encode, Frame.covered, octetAddr_addrOctet hsource, readBody_encode hbody]

theorem readFrame_eq_some {n : SegmentSize} {octets : List Octet} {f : Frame} (h : readFrame n octets = some f) :
    f.wf n = true ∧ ∃ body, f.body.readFrom body ∧
      octets.take (octets.length - 2) =
        f.body.kind.code :: addrOctet f.source :: f.body.destination :: f.sequence :: body := by
  unfold readFrame at h
  split at h
  · rename_i kind source destination seq body htake
    split at h
    · rename_i src b hsrc hb
      cases h
      obtain ⟨hn, hsource⟩ := octetAddr_eq_some hsrc
      obtain ⟨hwf, hkind, hdest, hread⟩ := readBody_eq_some hb
      exact ⟨(Frame.wf_iff _ _).mpr ⟨hn, hwf⟩, body, hread, by rw [htake, hkind, hsource, hdest]⟩
    · exact absurd h (by simp)
  · exact absurd h (by simp)

/-- Settles O53: the CRC by `crcOf_eq_bits`, the layouts by kind, and reading back both ways by `readFrame_encode` and
`readFrame_eq_some`. -/
theorem framesReadBackExactly : Obligations.FramesReadBackExactly := by
  unfold Obligations.FramesReadBackExactly
  intro two point count shift bits
  have hpoint : pointOctet = point := funext pointOctet_eq_ofNat
  refine ⟨crcOf_eq_bits, fun f => ⟨rfl, ?_⟩, fun n f hf => ?_, fun n octets f hf => ?_⟩
  · rw [← hpoint]
    obtain ⟨source, sequence, body⟩ := f
    cases body with
    | presence st fresh held n pUnits => cases st <;> rfl
    | _ => rfl
  · obtain ⟨-, hbody⟩ := (Frame.wf_iff n f).mp hf
    have hlen := Body.encode_length_le hbody
    refine ⟨?_, ?_, f.crcMatches_encode, readFrame_encode hf⟩
    · rw [f.encode_length]
      omega
    · rw [f.encode_length]
      omega
  · obtain ⟨hwf, body, hread, htake⟩ := readFrame_eq_some hf
    refine ⟨hwf, fun hother => ?_, fun st fresh held m u hb => ?_⟩
    · have hbody : body = f.body.encode := by
        cases hb : f.body with
        | presence st fresh held m u => exact absurd hb (hother st fresh held m u)
        | _ =>
          rw [hb] at hread
          exact hread
      rw [htake, hbody]
      rfl
    · rw [hb] at hread
      obtain ⟨flags, hflags, hbody⟩ := hread
      refine ⟨flags, hflags, ?_⟩
      rw [htake, hbody, Frame.covered, hb]
      rfl

end Sys2Proof
end

section
/-! SUPPORT. The rank of a station after a frame (O33). -/

namespace Sys2Proof

theorem SegmentSize.toNat_pos (n : SegmentSize) : 0 < n.toNat := by
  cases n <;> decide

namespace Machine

/-- The rank in R148's own words: own address less last source less 1, modulo N, among the integers. -/
theorem rankOf_cast (n : SegmentSize) (own last : Addr) :
    (rankOf n own last : Int) = ((own.val : Int) - last.val - 1) % n.toNat :=
  Int.toNat_of_nonneg (Int.emod_nonneg _ (Int.natCast_ne_zero.mpr n.toNat_pos.ne'))

theorem rankOf_lt (n : SegmentSize) (own last : Addr) : rankOf n own last < n.toNat := by
  rw [← Int.ofNat_lt, rankOf_cast]
  exact Int.emod_lt_of_pos _ (Int.natCast_pos.mpr n.toNat_pos)

/-- Going up from the address after `last`, the rank counts the addresses passed over on the way to `own`. -/
theorem succ_add_rankOf_mod {n : SegmentSize} {own : Addr} (hown : own.val < n.toNat) (last : Addr) :
    (last.val + 1 + rankOf n own last) % n.toNat = own.val := by
  zify
  calc ((last.val : Int) + 1 + rankOf n own last) % n.toNat
      = (last.val + 1 + (own.val - last.val - 1)) % n.toNat := by rw [rankOf_cast, Int.add_emod_emod]
    _ = own.val % n.toNat := by congr 1; ring
    _ = own.val := Int.emod_eq_of_lt (Int.natCast_nonneg _) (Int.ofNat_lt.mpr hown)

/-- A rank belongs to one address, for the address is found from it by `succ_add_rankOf_mod`. -/
theorem rankOf_injective {n : SegmentSize} {a b last : Addr} (ha : a.val < n.toNat) (hb : b.val < n.toNat)
    (h : rankOf n a last = rankOf n b last) : a = b :=
  Fin.ext (by rw [← succ_add_rankOf_mod ha last, h, succ_add_rankOf_mod hb last])

/-- Settles O33: `rankOf_lt` and `succ_add_rankOf_mod` give the rank, `rankOf_injective` that no two addresses share
one. -/
theorem ranksAreDistinct : Obligations.RanksAreDistinct := by
  unfold Obligations.RanksAreDistinct
  intro n last _
  exact ⟨fun own hown => ⟨rankOf_lt n own last, succ_add_rankOf_mod hown last⟩, fun _ _ ha hb => rankOf_injective ha hb⟩

end Machine

end Sys2Proof
end

section
/-! SUPPORT. The SPI transaction: its beginning and end, the octets of a command as they come in, and the octets of an
answer as they go out (O7, O8, O9). -/

namespace Sys2Proof.Machine

theorem exec_csnFall (s : State) : exec .csnFall s = .next s.csnFalls := rfl
theorem exec_spiOctetClocked (s : State) (o : Octet) : exec (.spiOctetClocked o) s = .next (s.octetClocked o) := rfl
theorem exec_commandComplete (s : State) (o : Octet) : exec (.commandComplete o) s = .next (s.lastOctet o) := rfl

/-! ### The beginning and the end of a transaction -/

/-- Settles O7: CSN_FALL by the room in the queue; CSN_RISE is the same in every state. -/
theorem chipSelectBeginsAndEndsTransactions : Obligations.ChipSelectBeginsAndEndsTransactions := by
  unfold Obligations.ChipSelectBeginsAndEndsTransactions
  intro s
  refine ⟨fun hcsn hreset hroom => ?_, fun hcsn hreset hfull => ?_, rfl⟩
  · have hdepth : s.host.queue.length < Config.commandDepth := hroom
    simp only [exec_csnFall, State.csnFalls, hcsn, hreset, hdepth, if_true, Bool.false_eq_true, if_false,
      Config.waitOctet]
  · have hdepth : ¬ s.host.queue.length < Config.commandDepth := Nat.not_lt_of_le hfull
    simp only [exec_csnFall, State.csnFalls, hcsn, hreset, hdepth, if_true, Bool.false_eq_true, if_false,
      Config.fillOctet]

/-! ### The octets of a command -/

/-- What has been received of a command after the octets of it that have come (R171). -/
def Receiving.after : List Octet → Receiving
  | [] => {}
  | [code] => { code := some code }
  | code :: count :: params =>
    { code := some code, count := some count, kept := params.take (keptParams code), received := params.length }

/-- Keeping an octet while there is room keeps the first octets of the parameters. -/
theorem keepWhileRoom_eq_take (k : Nat) (params : List Octet) (o : Octet) :
    (if (params.take k).length < k then params.take k ++ [o] else params.take k) = (params ++ [o]).take k := by
  by_cases hlength : params.length < k
  · rw [List.take_of_length_le (Nat.le_of_lt hlength), if_pos hlength,
      List.take_of_length_le (by simpa using hlength)]
  · have hfull : (params.take k).length = k := List.length_take_of_le (Nat.le_of_not_lt hlength)
    rw [if_neg (by omega), List.take_append_of_le_length (Nat.le_of_not_lt hlength)]

theorem Receiving.after_add (octets : List Octet) (o : Octet) :
    (Receiving.after octets).add o = .after (octets ++ [o]) := by
  match octets with
  | [] => rfl
  | [code] => simp only [Receiving.after, Receiving.add, List.singleton_append, List.take_nil, List.length_nil]
  | code :: count :: params =>
    simp only [Receiving.after, Receiving.add, List.cons_append, List.length_append, List.length_singleton,
      ← keepWhileRoom_eq_take]
    rfl

/-- The command is complete once as many parameter octets have come as its count announces. -/
theorem Receiving.complete_after {code count : Octet} {params : List Octet} (h : params.length = count.toNat) :
    (Receiving.after (code :: count :: params)).complete? =
      some { code := code, count := count, params := params.take (keptParams code), live := true } := by
  simp only [Receiving.after, Receiving.complete?, h, le_refl, if_true]

/-- No part of a command short of its last octet is a complete command. -/
theorem Receiving.complete_after_part {code count x : Octet} {params part rest : List Octet}
    (h : params.length = count.toNat) (hp : part ++ x :: rest = code :: count :: params) :
    (Receiving.after part).complete? = none := by
  match part with
  | [] => rfl
  | [_] => rfl
  | code' :: count' :: more =>
    obtain ⟨rfl, rfl, rfl⟩ : code' = code ∧ count' = count ∧ more ++ x :: rest = params := by simpa using hp
    have hshort : ¬ count'.toNat ≤ more.length := by
      rw [← h, List.length_append, List.length_cons]
      omega
    simp only [Receiving.after, Receiving.complete?, hshort, if_false]

/-- The part in a transaction of which these octets of a command have come; wait octets go on (R170). -/
def State.hearing (s : State) (octets : List Octet) : State :=
  { s with
    host := { s.host with port := .receiving (.after octets) }
    pins := { s.pins with miso := some 0x00 } }

/-- The part when a command has become complete: it waits, the lease is restarted, and the transaction waits for its
answer (R172, R173, R197). -/
def State.queued (s : State) (q : QueuedCommand) : State :=
  { s with
    host := { s.host with port := .waiting, queue := s.host.queue ++ [q] }
    ctrl := s.ctrl.restartLease
    pins := { s.pins with miso := some 0x00 } }

theorem State.hearing_queued (s : State) (octets : List Octet) (q : QueuedCommand) :
    (s.hearing octets).queued q = s.queued q := rfl

section
variable {s : State} {octets : List Octet} {o : Octet} (hport : s.host.port = .receiving (.after octets))
include hport

theorem State.octetClocked_part (hpart : (Receiving.after (octets ++ [o])).complete? = none) :
    s.octetClocked o = s.hearing (octets ++ [o]) := by
  simp only [State.octetClocked, hport, State.receiveOctet, Receiving.after_add, hpart]
  rfl

theorem State.octetClocked_last {q : QueuedCommand}
    (hlast : (Receiving.after (octets ++ [o])).complete? = some q) : s.octetClocked o = s.queued q := by
  simp only [State.octetClocked, hport, State.receiveOctet, Receiving.after_add, hlast]
  rfl

/-- The last octet may come as COMMAND_COMPLETE as well (log entry 11). -/
theorem State.lastOctet_last {q : QueuedCommand}
    (hlast : (Receiving.after (octets ++ [o])).complete? = some q) : s.lastOctet o = s.queued q := by
  simp only [State.lastOctet, hport, State.receiveOctet, Receiving.after_add, hlast, Option.isSome_some, if_true]
  rfl

end

/-- The octets of a command from any of them on, `early` having come before, form the queued command at the last one. -/
theorem execAll_command {code count last : Octet} {params : List Octet} (hcount : params.length = count.toNat)
    {c : Instr} (hc : c = .spiOctetClocked last ∨ c = .commandComplete last) (late : List Octet) {early : List Octet}
    {s : State} (hport : s.host.port = .receiving (.after early))
    (hsplit : early ++ late ++ [last] = code :: count :: params) :
    execAll (late.map .spiOctetClocked ++ [c]) s =
      .next (s.queued { code := code, count := count, params := params.take (keptParams code), live := true }) := by
  induction late generalizing early s with
  | nil =>
    have hlast := Receiving.complete_after (code := code) hcount
    rw [← hsplit, List.append_nil] at hlast
    refine execAll_cons (cs := []) ?_
    rcases hc with rfl | rfl
    · exact congrArg Host.Outcome.next (State.octetClocked_last hport hlast)
    · exact congrArg Host.Outcome.next (State.lastOctet_last hport hlast)
  | cons o late ih =>
    have hsplit' : early ++ [o] ++ late ++ [last] = code :: count :: params := by simpa using hsplit
    have hpart : (Receiving.after (early ++ [o])).complete? = none := by
      cases late with
      | nil => exact Receiving.complete_after_part (rest := []) hcount (by simpa using hsplit')
      | cons x late => exact Receiving.complete_after_part (rest := late ++ [last]) hcount (by simpa using hsplit')
    have hfirst : exec (.spiOctetClocked o) s = .next (s.hearing (early ++ [o])) :=
      congrArg Host.Outcome.next (State.octetClocked_part hport hpart)
    rw [List.map_cons, List.cons_append, execAll_cons hfirst, ih rfl hsplit', State.hearing_queued]

/-- Settles O8: `execAll_command` from the first octet on, the last one in either form. -/
theorem octetsFormOneCommand : Obligations.OctetsFormOneCommand := by
  unfold Obligations.OctetsFormOneCommand
  intro s code count params before last hport hcount hsplit kept t
  have hkept : params.take (keptParams code) = kept := by
    unfold keptParams kept
    cases HostCommand.ofCode code with
    | none => exact List.take_zero
    | some c => rfl
  have ht : s.queued { code := code, count := count, params := params.take (keptParams code), live := true } = t := by
    rw [hkept]
    rfl
  have run {c : Instr} (hc : c = .spiOctetClocked last ∨ c = .commandComplete last) :
      execAll (before.map .spiOctetClocked ++ [c]) s = .next t :=
    ht ▸ execAll_command hcount hc before (early := []) hport hsplit.symm
  refine ⟨run (.inr rfl), ?_⟩
  rw [hsplit, List.map_append]
  exact run (.inl rfl)

/-! ### The octets of an answer -/

/-- The octets of an answer that have been presented leave the rest; the last of them is on MISO (R170, R173). -/
theorem execAll_answering {sent rest mosi : List Octet} (hlength : mosi.length = sent.length) {s : State}
    (hport : s.host.port = .answering (sent ++ rest)) :
    execAll (mosi.map .spiOctetClocked) s = .next { s with
      host := { s.host with port := .answering rest }
      pins := { s.pins with miso := sent.getLast?.or s.pins.miso } } := by
  induction sent generalizing mosi s with
  | nil =>
    obtain rfl := List.eq_nil_of_length_eq_zero hlength
    rw [List.nil_append] at hport
    have hstay : s = { s with host := { s.host with port := .answering rest } } := by rw [← hport]
    exact congrArg Host.Outcome.next hstay
  | cons x sent ih =>
    obtain ⟨o, mosi, rfl⟩ := List.exists_cons_of_length_eq_add_one hlength
    have hfirst : exec (.spiOctetClocked o) s = .next { s with
        host := { s.host with port := .answering (sent ++ rest) }
        pins := { s.pins with miso := some x } } := by
      rw [exec_spiOctetClocked, State.octetClocked, hport]
      rfl
    have hmiso : sent.getLast?.or (some x) = (x :: sent).getLast?.or s.pins.miso := by
      cases sent <;> simp [List.getLast?_cons]
    rw [List.map_cons, execAll_cons hfirst, ih (Nat.succ.inj hlength) rfl]
    simp only [hmiso]

/-- Settles O9: the answer by `execAll_answering`; the other states of a transaction show wait or fill octets. -/
theorem answerIsPresentedInOrder : Obligations.AnswerIsPresentedInOrder := by
  unfold Obligations.AnswerIsPresentedInOrder
  intro s sent rest mosi o
  simp only [exec_spiOctetClocked]
  refine ⟨fun hport hlength => ?_, fun h => ?_, fun h => ?_, fun h => ?_⟩
  · rw [execAll_answering hlength hport]
    cases sent.getLast? <;> rfl
  · rw [State.octetClocked, h]
    rfl
  · rcases h with h | h
    all_goals
      rw [State.octetClocked, h]
      rfl
  · rw [State.octetClocked, h]
    rfl

end Sys2Proof.Machine
end

section
/-! SUPPORT. The Host Port's own checks, CLEAR CONDITION, and the commands that read (O11 to O14). -/

namespace Sys2Proof.Machine

theorem exec_getStation (s : State) : exec .getStation s = .next s.getStation := rfl

/-! ### The tables -/

/-- Settles O12, table by table; that codes are told apart is `HostCommand.ofCode_code`. -/
theorem hostCommandTables : Obligations.HostCommandTables := by
  unfold Obligations.HostCommandTables
  exact ⟨rfl, HostCommand.ofCode_code, rfl, rfl, rfl, rfl, rfl, rfl, rfl, rfl, rfl⟩

/-! ### Checks 2 to 4 of R175 -/

/-- A command in hand that its judging refuses, the state as it stands, changes nothing but the Host Port (R192). -/
theorem State.taken_refused {s : State} {named : Option HostCommand} {q : QueuedCommand} {rest : List QueuedCommand}
    (hq : s.host.queue = q :: rest) (hnamed : HostCommand.ofCode q.code = named) {status : Status}
    (he : status.isException = true) (hresume : ¬ (named = some .resume ∧ status = .badState))
    {item : List Octet → State → Answered}
    (hjudge : (s.dequeued rest).judge q item = (s.dequeued rest).refuse status) :
    s.takeCommand named item = s.excepted q rest status := by
  have htake : s.takeCommand named item =
      let a := (s.dequeued rest).judge q item
      (a.state.recordCondition q a.status).deliver q a.status a.data := by
    simp only [State.takeCommand, hq, hnamed, if_true]
    rfl
  rw [htake, hjudge]
  exact (State.answer_exception (s.dequeued rest) q he (hnamed ▸ hresume)).trans rfl

section
variable {s : State} {q : QueuedCommand} (item : List Octet → State → Answered)

theorem State.judge_unknown (hcondition : s.host.condition = none) (hnamed : HostCommand.ofCode q.code = none) :
    s.judge q item = s.refuse .unknownCommand := by
  simp only [State.judge, hcondition, hnamed, Option.isSome_none, Bool.false_eq_true, false_and, if_false]

variable {c : HostCommand} (hnamed : HostCommand.ofCode q.code = some c)
  (htaken : s.host.condition = none ∨ c.takenWhilePending = true)
include hnamed htaken

/-- A known command that no pending record keeps away is judged by its count, then by the station state. -/
theorem State.judge_known : s.judge q item =
    if c.admitsCount q.count = true then
      if c.admittedIn s.station = true then item q.params s else s.notAdmitted c
    else s.refuse .badLength := by
  have hpass : ¬ (s.host.condition.isSome = true ∧ ¬ (some c).any HostCommand.takenWhilePending = true) := by
    rcases htaken with h | h <;> simp [h]
  simp only [State.judge, hnamed, hpass, if_false]

theorem State.judge_badLength (hcount : c.admitsCount q.count = false) : s.judge q item = s.refuse .badLength := by
  rw [State.judge_known item hnamed htaken, if_neg (by simp [hcount])]

theorem State.judge_badState (hcount : c.admitsCount q.count = true) (hstation : c.admittedIn s.station = false)
    (hresume : c ≠ .resume) : s.judge q item = s.refuse .badState := by
  rw [State.judge_known item hnamed htaken, if_pos hcount, if_neg (by simp [hstation])]
  cases c with
  | resume => exact absurd rfl hresume
  | _ => rfl

end

/-- The row of every command but GET STATION takes the command in hand by an item of its own. -/
theorem exec_rowOf {c : HostCommand} (h : c ≠ .getStation) :
    ∃ item, ∀ s, exec (HostCommand.rowOf (some c)) s = .next (s.takeCommand (some c) item) := by
  cases c with
  | getStation => exact absurd rfl h
  | _ => exact ⟨_, fun _ => rfl⟩

/-- GET STATION with a count it does not admit takes no break (R171, log entry 13). -/
theorem State.getStation_wrongCount {s : State} {q : QueuedCommand} {rest : List QueuedCommand}
    (hq : s.host.queue = q :: rest) (hcount : HostCommand.getStation.admitsCount q.count = false) :
    s.getStation = s.takeCommand (some .getStation) getStationItem := by
  have hasked : s.stationAsked = false := by simp only [State.stationAsked, hq, hcount, Bool.and_false]
  simp only [State.getStation, hasked, Bool.false_eq_true, if_false]

theorem State.getStation_badLength {s : State} {q : QueuedCommand} {rest : List QueuedCommand}
    (hq : s.host.queue = q :: rest) (hnamed : HostCommand.ofCode q.code = some .getStation)
    (hcount : HostCommand.getStation.admitsCount q.count = false) :
    s.getStation = s.excepted q rest .badLength := by
  rw [State.getStation_wrongCount hq hcount]
  exact State.taken_refused hq hnamed rfl (by simp) (State.judge_badLength _ hnamed (.inr rfl) hcount)

/-- Settles O11: each check refuses through `State.taken_refused`; GET STATION's row is apart, since it may break its
reads off. -/
theorem portChecksRefuseInOrder : Obligations.PortChecksRefuseInOrder := by
  unfold Obligations.PortChecksRefuseInOrder
  intro s q rest hq
  refine ⟨fun hcondition hnamed => ?_, fun c hnamed htaken => ⟨fun hcount => ?_, fun hcount hstation hresume => ?_⟩⟩
  · exact congrArg Host.Outcome.next
      (State.taken_refused hq hnamed rfl (by simp) (State.judge_unknown (s := s.dequeued rest) _ hcondition hnamed))
  · by_cases hc : c = .getStation
    · subst hc
      exact congrArg Host.Outcome.next (State.getStation_badLength hq hnamed hcount)
    · obtain ⟨item, hrow⟩ := exec_rowOf hc
      rw [hrow, State.taken_refused hq hnamed rfl (by simp)
        (State.judge_badLength (s := s.dequeued rest) item hnamed htaken hcount)]
  · have hc : c ≠ .getStation := by
      rintro rfl
      exact absurd hstation (by simp [HostCommand.admittedIn])
    obtain ⟨item, hrow⟩ := exec_rowOf hc
    rw [hrow, State.taken_refused hq hnamed rfl (by simp [hresume])
      (State.judge_badState (s := s.dequeued rest) item hnamed htaken hcount hstation hresume)]

/-! ### CLEAR CONDITION -/

/-- A command that reaches its item and is answered OK or EMPTY there, the state as it stands, changes nothing but the
Host Port. -/
theorem State.taken_unchanged {s : State} {c : HostCommand} {q : QueuedCommand} {rest : List QueuedCommand}
    (hr : s.reaches c q rest) {item : List Octet → State → Answered} {status : Status} {data : List Octet}
    (hi : item q.params (s.dequeued rest) = { state := s.dequeued rest, status := status, data := data })
    (ho : status.isException = false) : s.takeCommand (some c) item = s.answered q rest status data :=
  (State.taken_ordinary hr hi ho rfl).trans rfl

theorem Condition.data_eq (c : Condition) :
    c.data = [c.status.code, c.command, if c.subject.isSome then 0x01 else 0x00, c.subject.getD 0x00] := by
  cases h : c.subject <;> simp only [Condition.data, h] <;> rfl

/-- Settles O13: CLEAR CONDITION's item, with a record pending and with none. -/
theorem conditionRecordIsCleared : Obligations.ConditionRecordIsCleared := by
  unfold Obligations.ConditionRecordIsCleared
  intro s q rest hr
  refine ⟨fun c hc => ?_, fun hnone => ?_⟩
  · let t : State := { s with host := { s.host with condition := none } }
    have hi : clearConditionItem q.params (s.dequeued rest) = (t.dequeued rest).accept c.data := by
      have hpending : (s.dequeued rest).host.condition = some c := hc
      rw [clearConditionItem, hpending]
      rfl
    have he : exec .clearCondition s = .next ((t.dequeued rest).answered q rest .ok c.data) :=
      congrArg Host.Outcome.next (State.taken_ordinary hr hi rfl rfl)
    rw [he, Condition.data_eq]
    rfl
  · have hi : clearConditionItem q.params (s.dequeued rest) = (s.dequeued rest).refuse .empty := by
      have hpending : (s.dequeued rest).host.condition = none := hnone
      rw [clearConditionItem, hpending]
    exact congrArg Host.Outcome.next (State.taken_unchanged hr hi rfl)

/-! ### GET STATION -/

/-- GET STATION in hand with a break at the counters: the break is used up, and the command is answered. -/
theorem State.getStation_lastBreak {s : State} {q : QueuedCommand} {rest : List QueuedCommand}
    (h : s.reaches .getStation q rest) {more : List StationGroup} (hb : s.breaks = .counters :: more) :
    s.getStation = State.answered { s with host := { s.host with reading := {} }, breaks := more } q rest .ok
      (s.host.reading.through s .counters).report.data := by
  have hg : s.getStation = State.takeCommand { s with breaks := more } (some .getStation) getStationItem := by
    rw [State.getStation, if_pos (State.stationAsked_reaches h), hb]
    rfl
  rw [hg, State.getStation_answered (s := { s with breaks := more }) h]
  rfl

/-! ### READ POINT and READ PEER -/

theorem readPointItem_pointOctet (s : State) (p : PointId) (more : List Octet) :
    readPointItem (pointOctet p :: more) s = s.accept (s.pointData p) := by
  rw [readPointItem, octetPoint_pointOctet]

theorem readPeerItem_peer {s : State} {x : Addr} (hn : x.val < s.n.toNat) (hown : x ≠ s.own) (more : List Octet) :
    readPeerItem (addrOctet x :: more) s = s.accept (s.peerData x) := by
  simp only [readPeerItem, octetAddr_addrOctet hn, (State.hasPeer_iff s x).mpr ⟨hn, hown⟩, if_true]

theorem readPeerItem_badAddress {s : State} {o : Octet} (h : s.n.toNat ≤ o.toNat ∨ o.toNat = s.own.val)
    (more : List Octet) : readPeerItem (o :: more) s = s.refuse .badAddress := by
  cases hx : octetAddr s.n o with
  | none => simp only [readPeerItem, hx]
  | some x =>
    obtain ⟨hn, rfl⟩ := octetAddr_eq_some hx
    have hval : (addrOctet x).toNat = x.val := octetOf_toNat (by omega)
    have hpeer : s.hasPeer x = false := by
      rw [Bool.eq_false_iff, ne_eq, State.hasPeer_iff]
      rintro ⟨-, hown⟩
      exact h.elim (by omega) fun h => hown (Fin.ext (hval ▸ h))
    simp only [readPeerItem, hx, hpeer, Bool.false_eq_true, if_false]

/-- Settles O14: GET STATION by its breaks, with `StationReading.through_report` for what is read; READ POINT and READ
PEER by their items. -/
theorem readCommandsChangeNothing : Obligations.ReadCommandsChangeNothing := by
  unfold Obligations.ReadCommandsChangeNothing
  intro s q rest
  refine ⟨fun hr last more => ?_, fun hq hcode hcount => ?_, fun p more hr hparams => ?_,
    fun o more hr hparams => ⟨fun x hx hn hown => ?_, fun hbad => ?_⟩⟩
  · intro old now report
    have hreport : (s.host.reading.through s last).report = report := StationReading.through_report ..
    rw [exec_getStation]
    refine ⟨fun hb hl => ?_, fun hb hl => ?_, fun hb hl => ?_⟩
    · rw [State.getStation_partial hr hb hl, ← hreport]
      rfl
    · subst hl
      rw [State.getStation_lastBreak hr hb, hreport]
    · subst hl
      rw [State.getStation_whole hr hb, hreport]
  · have hnamed : HostCommand.ofCode q.code = some .getStation := by rw [hcode]; rfl
    have hlength : HostCommand.getStation.admitsCount q.count = false := by
      have hpos : q.count.toNat ≠ 0 := fun h => hcount (BitVec.eq_of_toNat_eq h)
      simpa [HostCommand.admitsCount, HostCommand.minParams, HostCommand.maxParams] using hpos
    exact congrArg Host.Outcome.next (State.getStation_badLength hq hnamed hlength)
  · have hi := readPointItem_pointOctet (s.dequeued rest) p more
    exact congrArg Host.Outcome.next (State.taken_unchanged hr (hparams ▸ hi) rfl)
  · have ho : o = addrOctet x := by rw [addrOctet, ← hx, octetOf_toNat_self]
    have hi := readPeerItem_peer (s := s.dequeued rest) hn hown more
    exact congrArg Host.Outcome.next (State.taken_unchanged hr (hparams ▸ ho ▸ hi) rfl)
  · have hi := readPeerItem_badAddress (s := s.dequeued rest) hbad more
    exact congrArg Host.Outcome.next (State.taken_exception hr (by decide) (hparams ▸ hi) rfl)

end Sys2Proof.Machine
end

section
/-! SUPPORT. The layouts of the answers' data, octet by octet (O15). -/

namespace Sys2Proof.Machine

/-! ### Flag octets and absent fields -/

/-- What a flag at bit `k` adds to its octet. -/
def flagBit (b : Bool) (k : Nat) : Nat := if b then 2 ^ k else 0

theorem flagBit_eq (b : Bool) (k : Nat) : flagBit b k = 2 ^ k * b.toNat := by
  cases b <;> simp [flagBit]

/-- Bit 0 is the first flag, and each flag further on weighs twice as much (R217). -/
theorem bitsOctet_eq (bits : List Bool) :
    bitsOctet bits = BitVec.ofNat 8 (bits.foldr (fun b value => b.toNat + 2 * value) 0) := by
  have hfold : (fun (b : Bool) value => 2 * value + (if b then 1 else 0)) = fun b value => b.toNat + 2 * value := by
    funext b value
    cases b <;> simp [Nat.add_comm]
  rw [bitsOctet, hfold, octetOf]

theorem bitsOctet_one (a : Bool) : bitsOctet [a] = BitVec.ofNat 8 (flagBit a 0) := by
  simp [bitsOctet_eq, flagBit_eq]

theorem bitsOctet_two (a b : Bool) : bitsOctet [a, b] = BitVec.ofNat 8 (flagBit a 0 + flagBit b 1) := by
  simp [bitsOctet_eq, flagBit_eq]

theorem bitsOctet_three (a b c : Bool) :
    bitsOctet [a, b, c] = BitVec.ofNat 8 (flagBit a 0 + flagBit b 1 + flagBit c 2) := by
  rw [bitsOctet_eq]
  congr 1
  simp only [List.foldr, flagBit_eq]
  omega

theorem bitsOctet_seven (a b c d e f g : Bool) :
    bitsOctet [a, b, c, d, e, f, g] = BitVec.ofNat 8 (flagBit a 0 + flagBit b 1 + flagBit c 2 + flagBit d 3 +
      flagBit e 4 + flagBit f 5 + flagBit g 6) := by
  rw [bitsOctet_eq]
  congr 1
  simp only [List.foldr, flagBit_eq]
  omega

/-- What a field that may be absent is sent as. -/
def fieldOr {α β : Type} (absent : β) (o : Option α) (sent : α → β) : β :=
  match o with
  | some a => sent a
  | none => absent

/-- An absent field is sent as 0x00 (R217). -/
theorem orZero_map {α : Type} (o : Option α) (f : α → Octet) : orZero (o.map f) = fieldOr 0x00 o f := by
  cases o <;> rfl

/-! ### GET STATION, READ POINT and READ PEER -/

theorem StationReport.data_eq (r : StationReport) :
    r.data =
      [r.state.code, fieldOr 0x00 r.cause Cause.code, addrOctet r.straps.own, octetOf r.straps.rate.toNat,
        r.config.n.octet, r.config.pUnits, r.config.lease, r.config.discipline.code,
        BitVec.ofNat 8 (flagBit r.locked 0 + flagBit r.conditionPending 1), octetOf r.held, octetOf r.claiming,
        octetOf r.published, octetOf r.requests, octetOf r.events, octetOf r.lost] ++ r.counters.data := by
  rw [StationReport.data, bitsOctet_two, orZero_map]

theorem State.pointData_eq (s : State) (p : PointId) : let r := s.pt p
    s.pointData p =
      [BitVec.ofNat 8 p.val, r.state.code,
        BitVec.ofNat 8 (flagBit r.subscribed 0 + flagBit (decide (r.state = .held ∧ p ∈ s.tx.publish)) 1),
        BitVec.ofNat 8 (flagBit r.owner.isSome 0 + flagBit r.claimant.isSome 1 + flagBit r.contender.isSome 2 +
          flagBit r.length.isSome 3 + flagBit r.value.isSome 4 + flagBit r.age.isSome 5 + flagBit r.phase.isSome 6),
        fieldOr 0x00 r.owner addrOctet, fieldOr 0x00 r.claimant addrOctet, fieldOr 0x00 r.contender addrOctet,
        fieldOr 0x00 r.length octetOf, fieldOr 0x00 r.phase ClaimPhase.code] ++
      octets16 (fieldOr 0 r.value Value.generation) ++ octets16 (fieldOr 0 r.age (BitVec.ofNat 16)) ++
      fieldOr [0, 0, 0, 0, 0, 0, 0, 0] r.value (fun v => (v.octets ++ [0, 0, 0, 0, 0, 0, 0, 0]).take 8) := by
  intro r
  have hpublished : (r.state = .held && s.tx.publish.contains p) = decide (r.state = .held ∧ p ∈ s.tx.publish) := by
    rw [List.contains_eq_mem, ← Bool.decide_and]
  have hgeneration : (r.value.map Value.generation).getD 0 = fieldOr 0 r.value Value.generation := by
    cases r.value <;> rfl
  have hage : nat16 (r.age.getD 0) = octets16 (fieldOr 0 r.age (BitVec.ofNat 16)) := by
    cases r.age <;> rfl
  have hvalue : paddedValue ((r.value.map Value.octets).getD []) =
      fieldOr [0, 0, 0, 0, 0, 0, 0, 0] r.value (fun v => (v.octets ++ [0, 0, 0, 0, 0, 0, 0, 0]).take 8) := by
    cases r.value <;> rfl
  rw [← pointOctet_eq_ofNat, ← hpublished, ← bitsOctet_two, ← bitsOctet_seven, ← hgeneration, ← hage, ← hvalue]
  simp only [← orZero_map]
  rfl

/-- The three octets that a peer's last PRESENCE gives. -/
def announcedOctets (a : Option Announced) : List Octet :=
  fieldOr [0x00, 0x00, 0x00] a fun a => [octetOf a.held, a.n.octet, a.pUnits]

theorem State.peerData_eq (s : State) (x : Addr) : let e := s.peer x
    s.peerData x =
      [addrOctet x, e.state.code, BitVec.ofNat 8 (flagBit e.detached 0 + flagBit e.mismatch 1),
        BitVec.ofNat 8 (flagBit e.announced.isSome 0 + flagBit e.lastSeq.isSome 1 + flagBit e.silence.isSome 2)] ++
      announcedOctets e.announced ++ [fieldOr 0x00 e.lastSeq id, octetOf e.missed] ++
      octets16 (fieldOr 0 e.silence fun t => BitVec.ofNat 16 (min t 65535)) := by
  intro e
  have hannounced (tail : List Octet) : announcedOctets e.announced ++ tail =
      orZero (e.announced.map fun a => octetOf a.held) :: orZero (e.announced.map fun a => a.n.octet) ::
        orZero (e.announced.map fun a => a.pUnits) :: tail := by
    cases e.announced <;> rfl
  have hsequence : fieldOr 0x00 e.lastSeq id = orZero e.lastSeq := by
    cases e.lastSeq <;> rfl
  have hsilence : octets16 (fieldOr 0 e.silence fun t => BitVec.ofNat 16 (min t 65535)) =
      nat16 (min (e.silence.getD 0) Config.ageMax) := by
    cases e.silence <;> rfl
  rw [← bitsOctet_two, ← bitsOctet_three, hsequence, hsilence, List.append_assoc, List.append_assoc, hannounced]
  rfl

/-! ### READ EVENT -/

theorem Event.claimLost_data (p : PointId) (c : ClaimLoss) (new : Option Addr) :
    (Event.claimLost p c new).data =
      [0x06, BitVec.ofNat 8 (flagBit new.isSome 0), pointOctet p, c.code, fieldOr 0x00 new addrOctet] := by
  rw [Event.data, bitsOctet_one, orZero_map]

theorem Event.ownershipLost_data (p : PointId) (c : OwnershipLoss) (new : Option Addr) :
    (Event.ownershipLost p c new).data =
      [0x07, BitVec.ofNat 8 (flagBit new.isSome 0), pointOctet p, c.code, fieldOr 0x00 new addrOctet] := by
  rw [Event.data, bitsOctet_one, orZero_map]

theorem Event.ownerChanged_data (p : PointId) (old new : Option Addr) :
    (Event.ownerChanged p old new).data =
      [0x03, BitVec.ofNat 8 (flagBit old.isSome 0 + flagBit new.isSome 1), pointOctet p, fieldOr 0x00 old addrOctet,
        fieldOr 0x00 new addrOctet] := by
  rw [Event.data, bitsOctet_two, orZero_map, orZero_map]

/-- Settles O15: the layouts with optional fields by their lemmas above, the others as they are defined. -/
theorem answerLayouts : Obligations.AnswerLayouts := by
  unfold Obligations.AnswerLayouts
  intro bit two addr
  have haddr (a : Option Addr) : fieldOr 0x00 a addrOctet = addr a := by
    cases a <;> rfl
  refine ⟨⟨rfl, rfl⟩, fun r => ?station, fun s p => ?point, fun s x => ?peer, fun p x y g old new k n u => ?event, rfl,
    rfl, rfl, rfl, rfl, rfl, rfl, rfl, rfl⟩
  case station =>
    rw [StationReport.data_eq]
    cases r.cause <;> rfl
  case point =>
    intro r
    refine (s.pointData_eq p).trans ?_
    simp only [haddr]
    refine congrArg₂ _ (congrArg₂ _ (congrArg₂ _ ?_ ?_) ?_) ?_
    · cases r.length <;> cases r.phase <;> rfl
    · cases r.value <;> rfl
    · cases r.age <;> rfl
    · cases r.value <;> rfl
  case peer =>
    intro e
    refine (s.peerData_eq x).trans ?_
    refine congrArg₂ _ (congrArg₂ _ (congrArg₂ _ rfl ?_) ?_) ?_
    · cases e.announced <;> rfl
    · cases e.lastSeq <;> rfl
    · cases e.silence <;> rfl
  case event =>
    intro pt xo yo ko
    have hpt : pointOctet p = pt := pointOctet_eq_ofNat p
    simp only [← haddr, ← hpt]
    refine ⟨rfl, rfl, Event.ownerChanged_data p old new, rfl, rfl, fun c => Event.claimLost_data p c new,
      fun c => Event.ownershipLost_data p c new, rfl, rfl, rfl, rfl, rfl, rfl, fun _ => rfl, rfl,
      fun _ => ⟨rfl, fun _ => rfl⟩, rfl, fun _ => ⟨rfl, rfl⟩, rfl⟩

end Sys2Proof.Machine
end

section
/-! SUPPORT. A pending condition and RESUME: a refusal that detaches the station, and the return to ACTIVE (O10, O20). -/

namespace Sys2Proof.Machine

/-! ### The command in hand, judged and answered -/

/-- The command in hand is judged in the state in which it has left the queue, and answered in the state that its judging
leaves (R172, R175). -/
theorem State.takeCommand_inHand {s : State} {named : Option HostCommand} {q : QueuedCommand}
    {rest : List QueuedCommand} (hq : s.host.queue = q :: rest) (hnamed : HostCommand.ofCode q.code = named)
    (item : List Octet → State → Answered) {u : State} {status : Status} {data : List Octet}
    (hjudge : (s.dequeued rest).judge q item = { state := u, status := status, data := data }) :
    s.takeCommand named item = (u.recordCondition q status).deliver q status data := by
  rw [State.dequeued] at hjudge
  simp only [State.takeCommand, hq, hnamed, hjudge, if_true]

theorem State.deliver_eq_answered (s : State) (q : QueuedCommand) (status : Status) (data : List Octet) :
    s.deliver q status data = s.answered q s.host.queue status data := by
  cases hlive : q.live <;> simp [State.deliver, State.answered, answerOctets, Config.answerMarker, hlive]

/-- A pending record is kept: no second one is created (R192). -/
theorem State.recordCondition_pending {s : State} (h : s.host.condition.isSome = true) (q : QueuedCommand)
    (status : Status) : s.recordCondition q status = s :=
  if_neg fun ⟨_, _, hnone, _⟩ => by simp [hnone] at h

/-- RESUME's BAD_STATE creates no record (R195). -/
theorem State.recordCondition_resume {q : QueuedCommand} (h : HostCommand.ofCode q.code = some .resume) (s : State) :
    s.recordCondition q .badState = s :=
  if_neg fun ⟨_, _, _, hnot⟩ => hnot ⟨h, rfl⟩

/-! ### Commands that a pending record keeps away -/

/-- The octets of the three commands taken while a record is pending (R193, R217). -/
theorem HostCommand.any_takenWhilePending_iff (o : Octet) :
    (HostCommand.ofCode o).any HostCommand.takenWhilePending = true ↔ o = 0x01 ∨ o = 0x05 ∨ o = 0x06 := by
  refine ⟨fun h => ?_, ?_⟩
  · cases hc : HostCommand.ofCode o with
    | none => simp [hc] at h
    | some c =>
      rw [hc] at h
      rw [← HostCommand.code_of_ofCode hc]
      cases c with
      | getStation => exact .inl rfl
      | resume => exact .inr (.inl rfl)
      | clearCondition => exact .inr (.inr rfl)
      | _ => cases h
  · rintro (rfl | rfl | rfl) <;> rfl

/-- Every row but GET STATION's, that of an unknown command too, takes the command in hand by an item of its own. -/
theorem exec_rowOf_named {named : Option HostCommand} (h : named ≠ some .getStation) :
    ∃ item, ∀ s, exec (HostCommand.rowOf named) s = .next (s.takeCommand named item) := by
  cases named with
  | none => exact ⟨_, fun _ => rfl⟩
  | some c => exact exec_rowOf fun hc => h (congrArg some hc)

theorem State.judge_pending {s : State} {q : QueuedCommand} (hpending : s.host.condition.isSome = true)
    (haway : ¬ (HostCommand.ofCode q.code).any HostCommand.takenWhilePending = true)
    (item : List Octet → State → Answered) : s.judge q item = s.violation.refuse .conditionPending :=
  if_pos ⟨hpending, haway⟩

/-! ### The entry to DETACHED does not look at the queue of commands -/

theorem State.loseClaimDetached_dequeued (s : State) (rest : List QueuedCommand) (p : PointId) :
    (s.dequeued rest).loseClaimDetached p = (s.loseClaimDetached p).dequeued rest := by
  by_cases h : (s.pt p).state = .claiming
  · rw [State.loseClaimDetached_claiming h, State.loseClaimDetached_claiming (s := s.dequeued rest) h]
    rfl
  · rw [State.loseClaimDetached_other h, State.loseClaimDetached_other (s := s.dequeued rest) h]

theorem State.enterDetached_dequeued (s : State) (rest : List QueuedCommand) (cause : Cause) :
    (s.dequeued rest).enterDetached cause = (s.enterDetached cause).dequeued rest := by
  have hturned : (s.dequeued rest).turnDetached cause = (s.turnDetached cause).dequeued rest := rfl
  rw [State.enterDetached_visits, State.enterDetached_visits, hturned,
    List.foldl_hom (fun t => State.dequeued t rest) fun t p => t.loseClaimDetached_dequeued rest p]
  generalize allPoints = l
  rfl

theorem State.violation_dequeued (s : State) (rest : List QueuedCommand) :
    (s.dequeued rest).violation = s.violation.dequeued rest := by
  have hstation : (s.dequeued rest).station = s.station := rfl
  simp only [State.violation, hstation, State.enterDetached_dequeued]
  split <;> rfl

theorem State.violation_host (s : State) : s.violation.host = s.host := by
  unfold State.violation
  split
  · rw [State.enterDetached_eq]
  · rfl

/-- Settles O10: check 1 of R175 refuses by `State.judge_pending`; the violation sees neither the queue nor the record,
and the record that is pending is the one that stays. -/
theorem pendingConditionRefusesCommands : Obligations.PendingConditionRefusesCommands := by
  unfold Obligations.PendingConditionRefusesCommands
  intro s q rest hq hpending hget hresume hclear
  have haway : ¬ (HostCommand.ofCode q.code).any HostCommand.takenWhilePending = true := by
    rw [HostCommand.any_takenWhilePending_iff]
    exact not_or.mpr ⟨hget, not_or.mpr ⟨hresume, hclear⟩⟩
  have hrow : HostCommand.ofCode q.code ≠ some .getStation := fun h => haway (by rw [h]; rfl)
  obtain ⟨item, hitem⟩ := exec_rowOf_named hrow
  have hjudge := State.judge_pending (s := s.dequeued rest) hpending haway item
  have hkept : (s.violation.dequeued rest).host.condition.isSome = true := by
    rw [State.dequeued, State.violation_host]
    exact hpending
  rw [hitem, State.takeCommand_inHand hq rfl item hjudge, State.violation_dequeued,
    State.recordCondition_pending hkept, State.deliver_eq_answered]
  rfl

/-! ### RESUME -/

/-- Ids appended in turn, each only where it is wanted and absent: those of the list that were absent before, in the order
of the list, when the list names none twice. -/
theorem foldl_appendAbsent {α : Type} [DecidableEq α] (wanted : α → Prop) [DecidablePred wanted] {l : List α}
    (hl : l.Nodup) (ids : List α) :
    l.foldl (fun ids p => if wanted p ∧ p ∉ ids then ids ++ [p] else ids) ids =
      ids ++ l.filter fun p => wanted p ∧ p ∉ ids := by
  induction l generalizing ids with
  | nil => simp
  | cons p l ih =>
    obtain ⟨hp, hl⟩ := List.nodup_cons.mp hl
    rw [List.foldl_cons, ih hl]
    by_cases h : wanted p ∧ p ∉ ids
    · have hrest : (l.filter fun x => wanted x ∧ x ∉ ids ++ [p]) = l.filter fun x => wanted x ∧ x ∉ ids := by
        refine List.filter_congr fun x hx => ?_
        have hne : x ≠ p := fun he => hp (he ▸ hx)
        simp [hne]
      rw [if_pos h, hrest, List.filter_cons, if_pos (decide_eq_true h), List.append_assoc, List.singleton_append]
    · rw [if_neg h, List.filter_cons, if_neg (by simpa using h)]

/-- The return to ACTIVE, field by field (R201). -/
theorem State.resumeActive_eq (s : State) :
    s.resumeActive = { s with
      host := { s.host with condition := none }
      ctrl := { s.ctrl with state := .active, cause := some .host, leaseTimer := s.ctrl.config.leaseStart }
      tx := { s.tx with
        publish := s.tx.publish ++ allPoints.filter fun p => (s.pt p).state = .held ∧ p ∉ s.tx.publish }
      events := s.events.offer (.stationState .active (some .host)) } := by
  rw [← foldl_appendAbsent (fun p => (s.pt p).state = .held) allPoints_nodup]
  unfold State.resumeActive State.sweep
  generalize allPoints = l
  exact State.foldl_appendHeld _ l

theorem exec_resume (s : State) : exec .resume s = .next (s.takeCommand (some .resume) resumeItem) := rfl

/-- Settles O20: in DETACHED RESUME reaches its item, `State.resumeActive_eq`; elsewhere check 4 of R175 refuses it after
the pending record has been cleared. -/
theorem resumeReturnsToActive : Obligations.ResumeReturnsToActive := by
  unfold Obligations.ResumeReturnsToActive
  intro s q rest hq hcode hcount cleared
  have hadmits : HostCommand.resume.admitsCount q.count = true := by rw [hcount]; rfl
  have hnamed : HostCommand.ofCode q.code = some .resume := by rw [hcode]; rfl
  refine ⟨fun hdetached => ?_, fun hother => ?_⟩
  · have hreaches : s.reaches .resume q rest := ⟨hq, hcode, .inr rfl, hadmits, decide_eq_true hdetached⟩
    have hitem : resumeItem q.params (s.dequeued rest) = (s.dequeued rest).resumeActive.accept := rfl
    rw [State.resumeActive_eq] at hitem
    rw [exec_resume, State.taken_ordinary hreaches hitem rfl rfl]
    rfl
  · have hjudge : (s.dequeued rest).judge q resumeItem = (cleared.dequeued rest).refuse .badState := by
      have hstation : ¬ HostCommand.resume.admittedIn (s.dequeued rest).station = true :=
        fun h => hother (of_decide_eq_true h)
      rw [State.judge_known resumeItem hnamed (.inr rfl), if_pos hadmits, if_neg hstation]
      rfl
    rw [exec_resume, State.takeCommand_inHand hq hnamed resumeItem hjudge, State.recordCondition_resume hnamed,
      State.deliver_eq_answered]
    rfl

end Sys2Proof.Machine
end

section
/-! SUPPORT. The Event Queue: a record offered, and the oldest one read (O51, O26). -/

namespace Sys2Proof.Machine

/-! ### Which records merge -/

/-- The two sorts of record that merge: POINT_CHANGED with POINT_CHANGED of the same point, and RX_OVERRUN with
RX_OVERRUN (R207). -/
theorem Event.mergesInto_iff (e w : Event) :
    e.mergesInto w = true ↔
      (∃ p g old, e = .pointChanged p g ∧ w = .pointChanged p old) ∨
        ∃ k old, e = .rxOverrun k ∧ w = .rxOverrun old := by
  constructor
  · intro h
    unfold Event.mergesInto at h
    split at h
    next p g p' old =>
      obtain rfl : p = p' := of_decide_eq_true h
      exact .inl ⟨p, g, old, rfl, rfl⟩
    next k old => exact .inr ⟨k, old, rfl, rfl⟩
    next => exact absurd h Bool.false_ne_true
  · rintro (⟨p, g, old, rfl, rfl⟩ | ⟨k, old, rfl, rfl⟩)
    · exact decide_eq_true rfl
    · rfl

theorem Event.pointChanged_mergesInto_eq_false {p : PointId} {g : Generation} {w : Event}
    (h : ∀ old, w ≠ .pointChanged p old) : (Event.pointChanged p g).mergesInto w = false := by
  simpa [← Bool.not_eq_true, Event.mergesInto_iff] using h

theorem Event.rxOverrun_mergesInto_eq_false {k : Nat} {w : Event} (h : ∀ old, w ≠ .rxOverrun old) :
    (Event.rxOverrun k).mergesInto w = false := by
  simpa [← Bool.not_eq_true, Event.mergesInto_iff] using h

theorem Event.merge_pointChanged (p : PointId) (g old : Generation) :
    (Event.pointChanged p g).merge (.pointChanged p old) = .pointChanged p g :=
  if_pos rfl

/-- A waiting record that the offered one does not merge into stays as it is. -/
theorem Event.merge_of_not_mergesInto {e w : Event} (h : e.mergesInto w = false) : e.merge w = w := by
  unfold Event.merge
  split
  next p g p' old => exact if_neg (of_decide_eq_false h)
  next => exact absurd h Bool.true_eq_false.mp
  next => rfl

/-! ### A record offered -/

/-- A record that merges into one waiting record alone changes that one in its place, whatever the queue's length
(R207). -/
theorem EventQueue.offer_merged {q : EventQueue} {e w : Event} {before after : List Event}
    (hq : q.records = before ++ w :: after) (hw : e.mergesInto w = true)
    (hothers : ∀ v ∈ before ++ after, e.mergesInto v = false) :
    q.offer e = { records := before ++ e.merge w :: after, lost := q.lost } := by
  have hwaits : w ∈ q.records := by simp [hq]
  have hkept {l : List Event} (hl : ∀ v ∈ l, v ∈ before ++ after) : l.map e.merge = l :=
    (List.map_congr_left fun v hv => Event.merge_of_not_mergesInto (hothers v (hl v hv))).trans (List.map_id' l)
  rcases q.offer_cases e with ⟨-, ho⟩ | ⟨hnone, -⟩ | ⟨hnone, -⟩
  · rw [ho, hq, List.map_append, List.map_cons, hkept fun _ => List.mem_append_left _,
      hkept fun _ => List.mem_append_right _]
  all_goals exact absurd hw (by simp [hnone w hwaits])

/-- A record that merges into none joins the tail, or is counted as lost when 32 records wait (R207). -/
theorem EventQueue.offer_apart {q : EventQueue} {e : Event} (h : ∀ w ∈ q.records, e.mergesInto w = false) :
    q.offer e =
      if q.records.length < Config.eventCapacity then { q with records := q.records ++ [e] }
      else { q with lost := min (q.lost + 1) Config.countMax } := by
  rcases q.offer_cases e with ⟨⟨w, hw, hinto⟩, -⟩ | ⟨-, hroom, ho⟩ | ⟨-, hfull, ho⟩
  · exact absurd hinto (by simp [h w hw])
  · rw [ho, if_pos hroom]
  · rw [ho, if_neg (Nat.not_lt.mpr hfull)]

/-- Settles O51: the two merges by `EventQueue.offer_merged`, every other record by `EventQueue.offer_apart`. -/
theorem eventsAreQueuedMergedOrLost : Obligations.EventsAreQueuedMergedOrLost := by
  unfold Obligations.EventsAreQueuedMergedOrLost
  intro q e before after
  refine ⟨?changed, ?overrun, fun hchanged hoverrun => ?other⟩
  case changed =>
    rintro p g old rfl hq hothers
    have hinto := (Event.mergesInto_iff (.pointChanged p g) (.pointChanged p old)).mpr (.inl ⟨p, g, old, rfl, rfl⟩)
    rw [EventQueue.offer_merged hq hinto fun w hw => Event.pointChanged_mergesInto_eq_false (hothers w hw),
      Event.merge_pointChanged]
  case overrun =>
    rintro k old rfl hq hothers
    exact EventQueue.offer_merged hq rfl fun w hw => Event.rxOverrun_mergesInto_eq_false (hothers w hw)
  case other =>
    have hnone : ∀ w ∈ q.records, e.mergesInto w = false := by
      intro w hw
      rw [← Bool.not_eq_true, Event.mergesInto_iff]
      rintro (⟨p, g, old, he, rfl⟩ | ⟨k, old, he, rfl⟩)
      · exact hchanged p g he old hw
      · exact hoverrun k he old hw
    rw [EventQueue.offer_apart hnone]
    exact ⟨fun hroom => if_pos hroom, fun hfull => if_neg (Nat.not_lt.mpr hfull)⟩

/-! ### READ EVENT -/

theorem EventQueue.noteLost_zero (records : List Event) :
    EventQueue.noteLost { records := records, lost := 0 } = { records := records, lost := 0 } :=
  if_pos rfl

theorem EventQueue.noteLost_ne_zero (records : List Event) {lost : Nat} (h : lost ≠ 0) :
    EventQueue.noteLost { records := records, lost := lost } =
      { records := records ++ [.eventsLost lost], lost := 0 } :=
  if_neg h

theorem exec_readEvent (s : State) : exec .readEvent s = .next (s.takeCommand (some .readEvent) readEventItem) := rfl

theorem readEventItem_nil {s : State} (h : s.events.records = []) (params : List Octet) :
    readEventItem params s = s.refuse .empty := by
  rw [readEventItem, h]

theorem readEventItem_cons {s : State} {e : Event} {others : List Event} (h : s.events.records = e :: others)
    (params : List Octet) :
    readEventItem params s =
      State.accept { s with events := EventQueue.noteLost { records := others, lost := s.events.lost } } e.data := by
  rw [readEventItem, h]

/-- READ EVENT with a record waiting: the oldest is removed and answered, and the queue behind it notes its losses
(R210). -/
theorem exec_readEvent_cons {s : State} {q : QueuedCommand} {rest : List QueuedCommand}
    (hr : s.reaches .readEvent q rest) {e : Event} {others : List Event} (h : s.events.records = e :: others) :
    exec .readEvent s = .next (State.answered { s with
      events := EventQueue.noteLost { records := others, lost := s.events.lost } } q rest .ok e.data) := by
  have hitem := readEventItem_cons (s := s.dequeued rest) h q.params
  rw [exec_readEvent, State.taken_ordinary hr hitem rfl rfl]
  rfl

/-- Settles O26: an empty queue refuses with EMPTY; otherwise `exec_readEvent_cons`, by whether records were lost. -/
theorem readEventTakesTheOldest : Obligations.ReadEventTakesTheOldest := by
  unfold Obligations.ReadEventTakesTheOldest
  intro s q rest hr
  refine ⟨fun hempty => ?_, fun e others hq hzero => ?_, fun e others hq hlost => ?_⟩
  · have hitem := readEventItem_nil (s := s.dequeued rest) hempty q.params
    rw [exec_readEvent, State.taken_unchanged hr hitem rfl]
  · rw [exec_readEvent_cons hr hq, hzero, EventQueue.noteLost_zero]
  · rw [exec_readEvent_cons hr hq, EventQueue.noteLost_ne_zero others hlost]

end Sys2Proof.Machine
end

section
/-! SUPPORT. CLASHED is frozen (O60): what every command leaves of the station, the table, the roster and the Transmit
Scheduler while the station is CLASHED. -/

namespace Sys2Proof.Machine

/-- From `s` to `t` the Station Controller, the table with its counts, the roster and the Transmit Scheduler stay. -/
def State.FrozenAs (s t : State) : Prop :=
  t.ctrl = s.ctrl ∧ t.points = s.points ∧ t.roster = s.roster ∧ t.heldCount = s.heldCount ∧
    t.claimingCount = s.claimingCount ∧ t.tx = s.tx

namespace State.FrozenAs

theorem refl (s : State) : s.FrozenAs s := ⟨rfl, rfl, rfl, rfl, rfl, rfl⟩

theorem trans {s t u : State} (h : s.FrozenAs t) (h' : t.FrozenAs u) : s.FrozenAs u := by
  obtain ⟨hctrl, hpoints, hroster, hheld, hclaiming, htx⟩ := h
  obtain ⟨hctrl', hpoints', hroster', hheld', hclaiming', htx'⟩ := h'
  exact ⟨hctrl'.trans hctrl, hpoints'.trans hpoints, hroster'.trans hroster, hheld'.trans hheld,
    hclaiming'.trans hclaiming, htx'.trans htx⟩

end State.FrozenAs

/-- All that stays has stayed, or the session has ended by what `ended` says. -/
def State.FrozenUnless (ended : Prop) (s t : State) : Prop := s.FrozenAs t ∨ (t.station = .offline ∧ ended)

/-! ### CLASHED guards its items -/

theorem State.takesFrames_clashed {s : State} (h : s.station = .clashed) : s.takesFrames = false := by
  simp [State.takesFrames, h]

theorem State.mirrorTimersRun_clashed {s : State} (h : s.station = .clashed) : s.mirrorTimersRun = false := by
  simp [State.mirrorTimersRun, State.takesFrames, h]

/-- No frame of the station is on the line in CLASHED (R120). -/
theorem State.LineFits.not_sending {s : State} (hl : s.LineFits) (h : s.station = .clashed) :
    s.line.state ≠ .sending := by
  obtain ⟨-, hsending, hflying, -, -⟩ := hl
  intro hs
  rcases hflying (hsending.mp hs) with h' | h' | h' <;> simp [h] at h'

theorem State.answer_frozen (s : State) (q : QueuedCommand) (status : Status) (data : List Octet) :
    s.FrozenAs ((s.recordCondition q status).deliver q status data) := by
  unfold State.deliver State.recordCondition
  split <;> split <;> exact ⟨rfl, rfl, rfl, rfl, rfl, rfl⟩

section
variable {s : State} (h : s.station = .clashed)
include h

/-- The checks of R175 in CLASHED: the item acts only where CLASHED admits the command, and there is no violation. -/
theorem State.judge_frozen {q : QueuedCommand} {item : List Octet → State → Answered} {ended : Prop}
    (hi : (HostCommand.ofCode q.code).any (·.admittedIn .clashed) = true →
      s.FrozenUnless ended (item q.params s).state) : s.FrozenUnless ended (s.judge q item).state := by
  have hviolation : s.violation = s := if_neg (by rw [h]; decide)
  simp only [State.judge]
  split
  · rw [hviolation]
    exact .inl (.refl s)
  · cases hq : HostCommand.ofCode q.code with
    | none => exact .inl (.refl s)
    | some c =>
      rw [hq] at hi
      dsimp only
      split
      · split
        · rename_i hadmitted
          exact hi (by rwa [h] at hadmitted)
        · left
          cases c <;> exact ⟨rfl, rfl, rfl, rfl, rfl, rfl⟩
      · exact .inl (.refl s)

theorem State.takeCommand_frozenUnless {named : Option HostCommand} {item : List Octet → State → Answered}
    {ended : Prop}
    (hi : ∀ (params : List Octet) (t : State), t.station = .clashed → named.any (·.admittedIn .clashed) = true →
      t.FrozenUnless ended (item params t).state) : s.FrozenUnless ended (s.takeCommand named item) := by
  unfold State.takeCommand
  split
  · exact .inl (.refl s)
  · split
    · rename_i q rest _ hq
      have hjudged := State.judge_frozen (s := { s with host := { s.host with queue := rest } }) h (item := item)
        fun ha => hi q.params _ h (hq ▸ ha)
      refine hjudged.imp (fun hf => .trans hf (State.answer_frozen _ q _ _)) fun ⟨hoffline, hended⟩ => ⟨?_, hended⟩
      rwa [State.station, State.answer_ctrl]
    · exact .inl (.refl s)

/-- A command whose item changes none of what stays. -/
theorem State.takeCommand_frozen {named : Option HostCommand} {item : List Octet → State → Answered} {ended : Prop}
    (hi : ∀ (params : List Octet) (t : State), t.FrozenAs (item params t).state) :
    s.FrozenUnless ended (s.takeCommand named item) :=
  State.takeCommand_frozenUnless h fun params t _ _ => .inl (hi params t)

/-- A command that CLASHED refuses. -/
theorem State.takeCommand_notAdmitted {c : HostCommand} {item : List Octet → State → Answered} {ended : Prop}
    (hc : c.admittedIn .clashed = false) : s.FrozenUnless ended (s.takeCommand (some c) item) :=
  State.takeCommand_frozenUnless h fun _ _ _ ha => by simp [hc] at ha

theorem State.getStation_frozen {ended : Prop} : s.FrozenUnless ended s.getStation := by
  have htake (t : State) (ht : t.station = .clashed) :
      t.FrozenUnless ended (t.takeCommand (some .getStation) getStationItem) :=
    State.takeCommand_frozen ht fun _ _ => ⟨rfl, rfl, rfl, rfl, rfl, rfl⟩
  unfold State.getStation
  split
  · split
    · exact htake s h
    · dsimp only
      split
      · exact htake { s with breaks := _ } h
      · exact .inl ⟨rfl, rfl, rfl, rfl, rfl, rfl⟩
  · exact htake s h

/-- LEAVE's item in CLASHED ends the session (R115). -/
theorem State.leave_frozenUnless : s.FrozenUnless True (s.takeCommand (some .leave) leaveItem) := by
  refine State.takeCommand_frozenUnless h fun params t ht _ => .inr ⟨?_, trivial⟩
  simp only [leaveItem, ht]
  rfl

/-! ### The ports -/

theorem State.receiveOctet_frozen (c : Receiving) (o : Octet) : s.FrozenAs (s.receiveOctet c o) := by
  have hlease : s.ctrl.restartLease = s.ctrl := if_neg (by rw [show s.ctrl.state = _ from h]; decide)
  simp only [State.receiveOctet, hlease]
  split <;> exact ⟨rfl, rfl, rfl, rfl, rfl, rfl⟩

theorem State.lastOctet_frozen (o : Octet) : s.FrozenAs (s.lastOctet o) := by
  unfold State.lastOctet
  split
  · split
    · exact State.receiveOctet_frozen h _ o
    · exact .refl s
  all_goals exact .refl s

theorem State.octetClocked_frozen (o : Octet) : s.FrozenAs (s.octetClocked o) := by
  unfold State.octetClocked
  split
  case h_2 => exact State.receiveOctet_frozen h _ o
  all_goals exact ⟨rfl, rfl, rfl, rfl, rfl, rfl⟩

/-! ### The line -/

/-- A slot moves the ladder on and offers nothing (R148, R165). -/
theorem State.slotBegins_frozen {slot : Nat} {offer : State → State}
    (ho : ∀ t : State, t.station = .clashed → offer t = t) : s.FrozenAs (s.slotBegins slot offer) := by
  unfold State.slotBegins
  split
  · rename_i l _ _
    have hoffer := ho { s with line := { s.line with ladder := some (l.reach slot) } } h
    dsimp only
    split
    · rw [hoffer]
      exact ⟨rfl, rfl, rfl, rfl, rfl, rfl⟩
    · exact ⟨rfl, rfl, rfl, rfl, rfl, rfl⟩
  · exact .refl s

theorem State.takeFrame_frozen (f : Frame) : s.FrozenAs (s.takeFrame f) := by
  unfold State.takeFrame
  split
  · exact ⟨rfl, rfl, rfl, rfl, rfl, rfl⟩
  · rw [if_pos (by simp [State.takesFrames_clashed h])]
    exact .refl s

/-- A frame that ends is counted or dropped; one with the own address makes no clash (R120). -/
theorem State.frameEnds_frozen : s.FrozenAs s.frameEnds := by
  have hclash (x : Addr) : (s.closeFrame x).clash = s.closeFrame x :=
    if_neg (by simp [State.takesFrames_clashed (s := s.closeFrame x) h])
  have htake (f : Frame) : s.FrozenAs ((s.closeFrame f.source).takeFrame f) :=
    .trans ⟨rfl, rfl, rfl, rfl, rfl, rfl⟩ (State.takeFrame_frozen (s := s.closeFrame f.source) h f)
  unfold State.frameEnds
  split
  · split
    · simp only [State.judgeFrame, hclash]
      split
      · exact ⟨rfl, rfl, rfl, rfl, rfl, rfl⟩
      · split
        · exact ⟨rfl, rfl, rfl, rfl, rfl, rfl⟩
        · split
          · exact ⟨rfl, rfl, rfl, rfl, rfl, rfl⟩
          · split
            · exact ⟨rfl, rfl, rfl, rfl, rfl, rfl⟩
            · exact htake _
    all_goals exact ⟨rfl, rfl, rfl, rfl, rfl, rfl⟩
  · exact .refl s

theorem State.collides_frozen (hl : s.LineFits) : s.collides = s := by
  unfold State.collides
  split
  · rename_i hsending _
    exact absurd hsending (hl.not_sending h)
  · rfl

theorem State.ownFrameEnds_frozen (hl : s.LineFits) : s.ownFrameEnds = s := by
  unfold State.ownFrameEnds
  split
  · rename_i hsending _
    exact absurd hsending (hl.not_sending h)
  · rfl

theorem State.character_frozen (hl : s.LineFits) (octet : Octet) (stopHigh : Bool) :
    s.FrozenAs (s.character octet stopHigh) := by
  unfold State.character
  split
  · split <;> exact ⟨rfl, rfl, rfl, rfl, rfl, rfl⟩
  case h_4 hsending => exact absurd hsending (hl.not_sending h)
  all_goals exact ⟨rfl, rfl, rfl, rfl, rfl, rfl⟩

theorem State.takeItem_clashed (take : Frame → FrameItem → Option (State → State)) : s.takeItem take = s := by
  simp only [State.takeItem, State.takesFrames_clashed h, Bool.false_eq_true, if_false]
  repeat' split
  all_goals rfl

/-! ### The timers -/

theorem State.refreshExpires_clashed (p : PointId) : s.refreshExpires p = s := by
  simp only [State.refreshExpires, h, ite_self]

theorem State.staleExpires_clashed (p : PointId) : s.staleExpires p = s := by
  simp [State.staleExpires, State.mirrorTimersRun_clashed h]

theorem State.contenderExpires_clashed (p : PointId) : s.contenderExpires p = s := by
  simp [State.contenderExpires, State.mirrorTimersRun_clashed h]

theorem State.silence2P_clashed (x : Addr) : s.silence2P x = s := by
  simp [State.silence2P, State.mirrorTimersRun_clashed h]

theorem State.silence5P_clashed (x : Addr) : s.silence5P x = s := by
  simp [State.silence5P, State.mirrorTimersRun_clashed h]

/-! ### Every command -/

theorem exec_frozenUnless (hl : s.LineFits) {c : Instr} (hr : c ≠ .reset)
    (hrel : ∀ address rate, c ≠ .resetRelease address rate) :
    ∃ t, exec c s = .next t ∧ s.FrozenUnless (c = .leave) t := by
  have hsame {t : State} (ht : t = s) : s.FrozenUnless (c = .leave) t := .inl (ht ▸ .refl s)
  cases c with
  | reset => exact absurd rfl hr
  | resetRelease address rate => exact absurd rfl (hrel address rate)
  | csnFall =>
    refine ⟨_, rfl, .inl ?_⟩
    unfold State.csnFalls
    split_ifs <;> exact ⟨rfl, rfl, rfl, rfl, rfl, rfl⟩
  | csnRise => exact ⟨_, rfl, .inl ⟨rfl, rfl, rfl, rfl, rfl, rfl⟩⟩
  | commandComplete mosi => exact ⟨_, rfl, .inl (State.lastOctet_frozen h mosi)⟩
  | spiOctetClocked mosi => exact ⟨_, rfl, .inl (State.octetClocked_frozen h mosi)⟩
  | unknownCommand => exact ⟨_, rfl, State.takeCommand_frozen h fun _ t => .refl t⟩
  | getStation => exact ⟨_, rfl, State.getStation_frozen h⟩
  | leave => exact ⟨_, rfl, by simpa [State.FrozenUnless] using State.leave_frozenUnless h⟩
  | clearCondition =>
    refine ⟨_, rfl, State.takeCommand_frozen h fun params t => ?_⟩
    unfold clearConditionItem
    split <;> exact ⟨rfl, rfl, rfl, rfl, rfl, rfl⟩
  | readPoint =>
    refine ⟨_, rfl, State.takeCommand_frozen h fun params t => ?_⟩
    unfold readPointItem
    split <;> exact .refl t
  | readEvent =>
    refine ⟨_, rfl, State.takeCommand_frozen h fun params t => ?_⟩
    unfold readEventItem
    split <;> exact ⟨rfl, rfl, rfl, rfl, rfl, rfl⟩
  | readPeer =>
    refine ⟨_, rfl, State.takeCommand_frozen h fun params t => ?_⟩
    unfold readPeerItem
    repeat' split
    all_goals exact .refl t
  | configure | join | resume | writePoint | claimPoint | releasePoint | recallPoint | subscribe | unsubscribe =>
    exact ⟨_, rfl, State.takeCommand_notAdmitted h rfl⟩
  | lineIdleAfterSeeking =>
    refine ⟨_, rfl, .inl ?_⟩
    unfold State.seekingDone
    split <;> exact ⟨rfl, rfl, rfl, rfl, rfl, rfl⟩
  | startBit =>
    refine ⟨_, rfl, .inl ?_⟩
    unfold State.startBit
    split <;> exact ⟨rfl, rfl, rfl, rfl, rfl, rfl⟩
  | characterReceived octet stopHigh => exact ⟨_, rfl, .inl (State.character_frozen h hl octet stopHigh)⟩
  | frameEnd => exact ⟨_, rfl, .inl (State.frameEnds_frozen h)⟩
  | frameEndedWithoutCollision => exact ⟨_, rfl, hsame (State.ownFrameEnds_frozen h hl)⟩
  | collision => exact ⟨_, rfl, hsame (State.collides_frozen h hl)⟩
  | urgentSlot =>
    exact ⟨_, rfl, .inl (State.slotBegins_frozen h fun t ht => by simp only [State.urgentOffer, ht])⟩
  | rankedSlot =>
    exact ⟨_, rfl, .inl (State.slotBegins_frozen h fun t ht => State.rankedOffer_passes (.inr (.inr ht)) _)⟩
  | frameProcessorTakesFrame =>
    refine ⟨_, rfl, .inl ?_⟩
    unfold State.takeNextFrame
    split <;> exact ⟨rfl, rfl, rfl, rfl, rfl, rfl⟩
  | rosterFrameItem | publishRecord | claimHeard | assertHeard | releaseHeard | recallHeard =>
    exact ⟨_, rfl, hsame (State.takeItem_clashed h _)⟩
  | claimWindowExpiry point => exact ⟨_, rfl, hsame (if_neg (by simp [h]))⟩
  | refreshTimerExpiry point => exact ⟨_, rfl, hsame (State.refreshExpires_clashed h point)⟩
  | staleTimerExpiry point => exact ⟨_, rfl, hsame (State.staleExpires_clashed h point)⟩
  | contenderTimerExpiry point => exact ⟨_, rfl, hsame (State.contenderExpires_clashed h point)⟩
  | listenTimerExpiry => exact ⟨_, rfl, hsame (if_neg (by simp [h]))⟩
  | presenceTimerExpiry => exact ⟨_, rfl, hsame (if_neg (by simp [h]))⟩
  | leaseExpiry => exact ⟨_, rfl, hsame (if_neg (by simp [h]))⟩
  | silenceTimer2P peer => exact ⟨_, rfl, hsame (State.silence2P_clashed h peer)⟩
  | silenceTimer5P peer => exact ⟨_, rfl, hsame (State.silence5P_clashed h peer)⟩

end

/-- Settles O60: no millisecond passes in CLASHED, and every command leaves what is frozen by `exec_frozenUnless`. -/
theorem clashedIsFrozen : Obligations.ClashedIsFrozen := by
  unfold Obligations.ClashedIsFrozen
  intro s t hl h ht hr hrel
  match hp : s.pending with
  | [] =>
    have hidle : Host.Outcome.next (φ := Fault) (ρ := Refusal) s.tick = .next t := by
      rw [← ht, step, hp]
    have htick : s.tick = s := if_pos (.inr h)
    rw [htick] at hidle
    cases hidle
    exact .inl (State.FrozenAs.refl s)
  | c :: rest =>
    obtain ⟨u, hu, hfrozen⟩ := exec_frozenUnless (s := { s with pending := rest }) h hl (c := c)
      (fun e => hr rest (by rw [hp, e])) (fun address rate e => hrel address rate rest (by rw [hp, e]))
    have hnext : Host.Outcome.next (φ := Fault) (ρ := Refusal) u = .next t := by
      rw [← ht, ← hu, step, hp]
    cases hnext
    exact hfrozen.imp id fun ⟨hoffline, hleave⟩ => ⟨hoffline, rest, by rw [hleave]⟩

end Sys2Proof.Machine
end

section
/-! SUPPORT. One point record and what may become of it: the shape of its state, and the stations it names (O54, O58). -/

namespace Sys2Proof.Machine

/-! ### The shape of a record by its state -/

theorem namesOther_iff (own : Addr) (a : Option Addr) : namesOther own a = true ↔ ∃ x, a = some x ∧ x ≠ own := by
  cases a <;> simp [namesOther]

/-- A length of 1 to 8, and a value of that length if there is one (R5, R6). -/
def valueFitsLength (length : Option Nat) (value : Option Value) : Prop :=
  (∀ k, length = some k → 1 ≤ k ∧ k ≤ Config.valueMax) ∧ ∀ v, value = some v → length = some v.octets.length

theorem PointRecord.valueFits_iff (r : PointRecord) : r.valueFits = true ↔ valueFitsLength r.length r.value := by
  unfold PointRecord.valueFits valueFitsLength
  cases r.length <;> cases r.value <;> simp

section
variable {r : PointRecord} {own : Addr}

theorem PointRecord.fits_vacant (h : r.state = .vacant) :
    r.fits own = true ↔ r.owner = none ∧ r.claimant ≠ some own ∧ r.contender = none ∧ r.length = none ∧
      r.value = none ∧ r.age = none ∧ r.phase = none ∧ r.claimWindow = none ∧ r.refreshTimer = none ∧
      r.staleTimer = none ∧ r.contenderTimer = none := by
  simp only [PointRecord.fits, h, Bool.and_eq_true, decide_eq_true_eq, PointRecord.valueFits_iff, valueFitsLength,
    and_assoc]
  constructor
  · rintro ⟨-, -, hrest⟩
    exact hrest
  · intro hrest
    obtain ⟨-, -, -, hlength, hvalue, -⟩ := id hrest
    exact ⟨by simp [hlength], by simp [hvalue], hrest⟩

theorem PointRecord.fits_claiming (h : r.state = .claiming) :
    r.fits own = true ↔ valueFitsLength r.length r.value ∧ r.owner = none ∧ r.claimant = some own ∧
      r.contender = none ∧ r.length.isSome = true ∧ r.value.map Value.generation = some 0 ∧ r.age = none ∧
      r.phase.isSome = true ∧ (r.claimWindow = none ∨ r.phase = some .window) ∧ r.refreshTimer = none ∧
      r.staleTimer = none ∧ r.contenderTimer = none := by
  simp only [PointRecord.fits, h, Bool.and_eq_true, Bool.or_eq_true, decide_eq_true_eq, PointRecord.valueFits_iff,
    and_assoc]

theorem PointRecord.fits_held (h : r.state = .held) :
    r.fits own = true ↔ valueFitsLength r.length r.value ∧ r.owner = some own ∧ r.claimant = none ∧
      r.contender = none ∧ r.length.isSome = true ∧ r.value.isSome = true ∧ r.age = none ∧ r.phase = none ∧
      r.claimWindow = none ∧ r.staleTimer = none ∧ r.contenderTimer = none := by
  simp only [PointRecord.fits, h, Bool.and_eq_true, decide_eq_true_eq, PointRecord.valueFits_iff, and_assoc]

theorem PointRecord.fits_mirror (h : r.state = .mirror) :
    r.fits own = true ↔ valueFitsLength r.length r.value ∧ (∃ x, r.owner = some x ∧ x ≠ own) ∧ r.claimant = none ∧
      r.contender = none ∧ r.age.isSome = r.value.isSome ∧ r.phase = none ∧ r.claimWindow = none ∧
      r.refreshTimer = none ∧ r.staleTimer.isSome = true ∧ r.contenderTimer = none := by
  simp only [PointRecord.fits, h, Bool.and_eq_true, decide_eq_true_eq, PointRecord.valueFits_iff, and_assoc,
    namesOther_iff]

theorem PointRecord.fits_stale (h : r.state = .stale) :
    r.fits own = true ↔ valueFitsLength r.length r.value ∧ (∃ x, r.owner = some x ∧ x ≠ own) ∧
      r.claimant ≠ some own ∧ r.contender = none ∧ r.age.isSome = r.value.isSome ∧ r.phase = none ∧
      r.claimWindow = none ∧ r.refreshTimer = none ∧ r.staleTimer = none ∧ r.contenderTimer = none := by
  simp only [PointRecord.fits, h, Bool.and_eq_true, decide_eq_true_eq, PointRecord.valueFits_iff, and_assoc,
    namesOther_iff]

theorem PointRecord.fits_disputed (h : r.state = .disputed) :
    r.fits own = true ↔ valueFitsLength r.length r.value ∧
      (∃ x y, r.owner = some x ∧ r.contender = some y ∧ x ≠ own ∧ y ≠ own ∧ x < y) ∧ r.claimant = none ∧
      r.age.isSome = r.value.isSome ∧ r.phase = none ∧ r.claimWindow = none ∧ r.refreshTimer = none ∧
      r.staleTimer.isSome = true ∧ r.contenderTimer.isSome = true := by
  simp only [PointRecord.fits, h, Bool.and_eq_true, decide_eq_true_eq, PointRecord.valueFits_iff, and_assoc,
    namesOther_iff]
  cases r.owner <;> cases r.contender <;> simp
  tauto

/-- The age stands beside the value in every state that has an owner other than this station. -/
theorem PointRecord.fits_mirrored (h : r.state = .mirror ∨ r.state = .stale ∨ r.state = .disputed)
    (hr : r.fits own = true) : r.claimant ≠ some own ∧ r.age.isSome = r.value.isSome ∧ r.phase = none ∧
      r.claimWindow = none ∧ r.refreshTimer = none ∧ valueFitsLength r.length r.value := by
  rcases h with h | h | h
  · rw [PointRecord.fits_mirror h] at hr
    simp [hr]
  · rw [PointRecord.fits_stale h] at hr
    simp [hr]
  · rw [PointRecord.fits_disputed h] at hr
    simp [hr]

end

/-! ### What may become of a record -/

/-- The record names the station as owner, claimant or contender (R2). -/
def PointRecord.names (r : PointRecord) (x : Addr) : Prop :=
  r.owner = some x ∨ r.claimant = some x ∨ r.contender = some x

/-- The record `r` may become `r'` at the station `own`: where `ok` holds the shape is kept, and a station is named that
`r` named, or that is the source `src` of the frame being applied, or the own one. -/
structure PointRecord.Turns (src : Option Addr) (ok : Prop) (own : Addr) (r r' : PointRecord) : Prop where
  fits : ok → r.fits own = true → r'.fits own = true
  names : ∀ x, r'.names x → r.names x ∨ src = some x ∨ x = own

/-- The two records count alike as HELD and as CLAIMING (R25). -/
def PointRecord.CountsAs (r r' : PointRecord) : Prop :=
  (r'.state = .held ↔ r.state = .held) ∧ (r'.state = .claiming ↔ r.state = .claiming)

theorem PointRecord.CountsAs.of_state {r r' : PointRecord} (h : r'.state = r.state) : r.CountsAs r' := by
  simp [PointRecord.CountsAs, h]

/-- The record is neither HELD nor CLAIMING. -/
def PointRecord.uncounted (r : PointRecord) : Prop := r.state ≠ .held ∧ r.state ≠ .claiming

theorem PointRecord.CountsAs.of_uncounted {r r' : PointRecord} (h : r.uncounted) (h' : r'.uncounted) :
    r.CountsAs r' := by
  obtain ⟨hheld, hclaiming⟩ := h
  obtain ⟨hheld', hclaiming'⟩ := h'
  simp [PointRecord.CountsAs, *]

/-- What a frame of a station acting as holder brings is a length of 1 to 8 with a value of that length (R5, R14). -/
def Carried.fits (c : Carried) : Prop := valueFitsLength (some c.length) c.value

namespace PointRecord

variable {src : Option Addr} {ok : Prop} {own : Addr} {r r' : PointRecord}

theorem Turns.refl (r : PointRecord) : r.Turns src ok own r := ⟨fun _ => id, fun _ => .inl⟩

/-- The two records differ in no name. -/
theorem Turns.of_fits (hfits : ok → r.fits own = true → r'.fits own = true) (howner : r'.owner = r.owner)
    (hclaimant : r'.claimant = r.claimant) (hcontender : r'.contender = r.contender) : r.Turns src ok own r' := by
  refine ⟨hfits, fun x hx => .inl ?_⟩
  rwa [PointRecord.names, howner, hclaimant, hcontender] at hx

theorem vacate_turns {claimant : Option Addr} (hfits : ok → r.fits own = true → claimant ≠ some own)
    (hnames : ∀ x, claimant = some x → r.names x ∨ src = some x) : r.Turns src ok own (r.vacate claimant) where
  fits hok hr := by
    rw [fits_vacant rfl]
    simpa [vacate] using hfits hok hr
  names x hx := by
    have hclaimant : claimant = some x := by simpa [names, vacate] using hx
    rcases hnames x hclaimant with h | h
    · exact .inl h
    · exact .inr (.inl h)

theorem vacate_none_turns : r.Turns src ok own (r.vacate none) :=
  vacate_turns (fun _ _ => by simp) fun _ h => by simp at h

theorem mirrorOf_turns {y : Addr} {length : Option Nat} {value : Option Value} (hy : r.names y ∨ src = some y)
    (hfits : ok → r.fits own = true → y ≠ own ∧ valueFitsLength length value) :
    r.Turns src ok own (r.mirrorOf y length value) where
  fits hok hr := by
    obtain ⟨hown, hvalue⟩ := hfits hok hr
    rw [fits_mirror rfl]
    simp [mirrorOf, hown, hvalue]
    cases value <;> simp
  names x hx := by
    have hx : y = x := by simpa [names, mirrorOf] using hx
    subst hx
    exact hy.imp id .inl

theorem toStale_turns (h : r.state = .mirror ∨ r.state = .disputed) : r.Turns src ok own r.toStale where
  fits _ hr := by
    rw [fits_stale rfl]
    rcases h with h | h
    · rw [fits_mirror h] at hr
      simp [toStale, hr]
    · rw [fits_disputed h] at hr
      obtain ⟨hvalue, ⟨x, y, hx, -, hown, -⟩, hrest⟩ := hr
      simp [toStale, hvalue, hx, hown, hrest]
  names x hx := by
    simp only [names, toStale, reduceCtorEq, or_false] at hx
    simp only [names]
    tauto

theorem dropContender_turns (h : r.state = .disputed) : r.Turns src ok own r.dropContender where
  fits _ hr := by
    rw [fits_mirror rfl]
    rw [fits_disputed h] at hr
    obtain ⟨hvalue, ⟨x, y, hx, -, hown, -⟩, hrest⟩ := hr
    simp [dropContender, hvalue, hx, hown, hrest]
  names x hx := by
    simp only [names, dropContender, reduceCtorEq, or_false] at hx
    simp only [names]
    tauto

theorem contested_turns {x y : Addr} {c : Carried} (h : r.state = .mirror ∨ r.state = .stale ∨ r.state = .disputed)
    (hx : r.owner = some x) (hne : x ≠ y) (hy : src = some y) (hfits : ok → y ≠ own ∧ c.fits) :
    r.Turns src ok own (r.contested x y c) where
  fits hok hr := by
    obtain ⟨hown, hc⟩ := hfits hok
    have hxown : x ≠ own := by
      rcases h with h | h | h
      · simp only [fits_mirror h, hx] at hr
        simp_all
      · simp only [fits_stale h, hx] at hr
        simp_all
      · obtain ⟨-, ⟨x', y', hx', -, hown', -⟩, -⟩ := (fits_disputed h).mp hr
        rw [hx] at hx'
        cases hx'
        exact hown'
    have hmirrored := fits_mirrored h hr
    unfold contested
    split
    · rename_i hlt
      rw [fits_disputed rfl]
      unfold Carried.fits at hc
      simp [mirrorOf, hc, hown, hxown, hlt]
      cases c.value <;> simp
    · rename_i hlt
      have hlt : x < y := lt_of_le_of_ne (not_lt.mp hlt) hne
      have hstale : (if r.state = .stale then some 0 else r.staleTimer).isSome = true := by
        rcases h with h | h | h
        · simp only [fits_mirror h] at hr
          simp [h, hr]
        · simp [h]
        · simp only [fits_disputed h] at hr
          simp [h, hr]
      rw [fits_disputed rfl]
      simp [hx, hown, hxown, hlt, hmirrored, hstale]
  names z hz := by
    unfold contested at hz
    split at hz
    · simp only [names, mirrorOf, Option.some.injEq, reduceCtorEq, false_or] at hz
      rcases hz with rfl | rfl
      · exact .inr (.inl hy)
      · exact .inl (.inl hx)
    · simp only [names, reduceCtorEq, false_or, Option.some.injEq] at hz
      rcases hz with hz | rfl
      · exact .inl (.inl hz)
      · exact .inr (.inl hy)

/-- The owner's record is fresh, with the length and the value it brought or kept (R65). -/
theorem refreshed_turns {length : Option Nat} {value : Option Value}
    (h : r.state = .mirror ∨ r.state = .stale ∨ r.state = .disputed) (hv : value.isSome = true)
    (hfits : ok → r.fits own = true → valueFitsLength length value) :
    r.Turns src ok own { r.refreshed with length := length, value := value } where
  fits hok hr := by
    have hvalue := hfits hok hr
    rcases h with h | h | h
    · rw [fits_mirror (by simp [refreshed, h])]
      rw [fits_mirror h] at hr
      simp [refreshed, hvalue, hv, hr]
    · rw [fits_mirror (by simp [refreshed, h])]
      rw [fits_stale h] at hr
      simp [refreshed, hvalue, hv, hr]
    · rw [fits_disputed (by simp [refreshed, h])]
      rw [fits_disputed h] at hr
      obtain ⟨-, ⟨x, y, hx, hy, hcontest⟩, hrest⟩ := hr
      simp [refreshed, hvalue, hv, hx, hy, hcontest, hrest]
  names x hx := by
    simp only [names, refreshed, reduceCtorEq, false_or] at hx
    simp only [names]
    tauto

/-- The owner's ASSERT gives a record its length (R14). -/
theorem setLength_turns {k : Nat} (h : r.state = .mirror ∨ r.state = .stale ∨ r.state = .disputed)
    (hlength : r.length = none) (hfits : ok → 1 ≤ k ∧ k ≤ Config.valueMax) :
    r.Turns src ok own { r with length := some k } := by
  refine .of_fits (fun hok hr => ?_) rfl rfl rfl
  have hvalue : valueFitsLength (some k) r.value := by
    obtain ⟨-, -, -, -, -, -, hold⟩ := fits_mirrored h hr
    refine ⟨fun k' hk => by cases hk; exact hfits hok, fun v hv => ?_⟩
    have := hold v hv
    simp [hlength] at this
  rcases h with h | h | h
  · rw [fits_mirror h] at hr
    rw [fits_mirror (by exact h)]
    exact ⟨hvalue, hr.2⟩
  · rw [fits_stale h] at hr
    rw [fits_stale (by exact h)]
    exact ⟨hvalue, hr.2⟩
  · rw [fits_disputed h] at hr
    rw [fits_disputed (by exact h)]
    exact ⟨hvalue, hr.2⟩

theorem contenderTimer_turns (h : r.state = .disputed) : r.Turns src ok own { r with contenderTimer := some 0 } := by
  refine .of_fits (fun _ hr => ?_) rfl rfl rfl
  obtain ⟨hvalue, hparties, hclaimant, hage, hphase, hwindow, hrefresh, hstale, -⟩ := (fits_disputed h).mp hr
  exact (fits_disputed (by exact h)).mpr
    ⟨hvalue, hparties, hclaimant, hage, hphase, hwindow, hrefresh, hstale, rfl⟩

theorem claimant_turns {claimant : Option Addr} (h : r.state = .vacant ∨ r.state = .stale)
    (hfits : ok → r.fits own = true → claimant ≠ some own)
    (hnames : ∀ x, claimant = some x → r.names x ∨ src = some x) :
    r.Turns src ok own { r with claimant := claimant } where
  fits hok hr := by
    have hclaimant := hfits hok hr
    rcases h with h | h
    · rw [fits_vacant h] at hr
      rw [fits_vacant (by exact h)]
      simp [hr, hclaimant]
    · rw [fits_stale h] at hr
      rw [fits_stale (by exact h)]
      simp [hr, hclaimant]
  names x hx := by
    rcases hx with hx | hx | hx
    · exact .inl (.inl hx)
    · rcases hnames x hx with h | h
      · exact .inl h
      · exact .inr (.inl h)
    · exact .inl (.inr (.inr hx))

/-! ### The station's own points -/

theorem phase_turns {phase : ClaimPhase} {window : Option Nat} (h : r.state = .claiming)
    (hphase : phase = .window ∨ (window = r.claimWindow ∧ r.phase ≠ some .window)) :
    r.Turns src ok own { r with phase := some phase, claimWindow := window } := by
  refine .of_fits (fun _ hr => ?_) rfl rfl rfl
  rw [fits_claiming h] at hr
  rw [fits_claiming (by exact h)]
  obtain ⟨hvalue, howner, hclaimant, hcontender, hlength, hgeneration, hage, -, hwindow, hrest⟩ := hr
  refine ⟨hvalue, howner, hclaimant, hcontender, hlength, hgeneration, hage, rfl, ?_, hrest⟩
  rcases hphase with rfl | ⟨rfl, hp⟩
  · exact .inr rfl
  · exact .inl (hwindow.resolve_right hp)

theorem refreshTimer_turns {timer : Option Nat} (h : r.state = .held) :
    r.Turns src ok own { r with refreshTimer := timer } := by
  refine .of_fits (fun _ hr => ?_) rfl rfl rfl
  rw [fits_held h] at hr
  rwa [fits_held (by exact h)]

theorem written_turns {octets : List Octet} {g : Generation} (h : r.state = .held)
    (hlength : r.length = some octets.length) : r.Turns src ok own (r.written octets g) := by
  refine .of_fits (fun _ hr => ?_) rfl rfl rfl
  rw [fits_held h] at hr
  rw [fits_held (by exact h)]
  obtain ⟨⟨hlengths, -⟩, howner, hclaimant, hcontender, hsome, -, hrest⟩ := hr
  exact ⟨⟨hlengths, fun v hv => by cases hv; exact hlength⟩, howner, hclaimant, hcontender, hsome, rfl, hrest⟩

theorem claimed_turns {octets : List Octet} (h : 1 ≤ octets.length ∧ octets.length ≤ Config.valueMax) :
    r.Turns src ok own (r.claimed own octets) where
  fits _ _ := by
    rw [fits_claiming rfl]
    simp [claimed, valueFitsLength, h]
  names x hx := by
    have hx : own = x := by simpa [names, claimed] using hx
    exact .inr (.inr hx.symm)

theorem won_turns (h : r.state = .claiming) : r.Turns src ok own (r.won own) where
  fits _ hr := by
    rw [fits_claiming h] at hr
    obtain ⟨⟨hlengths, hvalue⟩, -, -, -, hsome, hgeneration, -⟩ := hr
    rw [fits_held rfl]
    have hv : r.value.isSome = true := by
      cases hv : r.value <;> simp [hv] at hgeneration ⊢
    refine ⟨⟨hlengths, fun v hw => ?_⟩, rfl, rfl, rfl, hsome, by simp [won, hv], rfl, rfl, rfl, rfl, rfl⟩
    obtain ⟨w, hw', rfl⟩ := Option.map_eq_some_iff.mp hw
    exact hvalue w hw'
  names x hx := by
    have hx : own = x := by simpa [names, won] using hx
    exact .inr (.inr hx.symm)

/-! ### Every record at once -/

theorem subscribed_turns {flag : Bool} : r.Turns src ok own { r with subscribed := flag } :=
  .of_fits (fun _ hr => hr) rfl rfl rfl

theorem stopOwnTimers_turns : r.Turns src ok own r.stopOwnTimers := by
  refine .of_fits (fun _ hr => ?_) rfl rfl rfl
  cases h : r.state with
  | vacant => rw [fits_vacant h] at hr; rw [fits_vacant (by exact h)]; simp [stopOwnTimers, hr]
  | claiming => rw [fits_claiming h] at hr; rw [fits_claiming (by exact h)]; simp [stopOwnTimers, hr]
  | held => rw [fits_held h] at hr; rw [fits_held (by exact h)]; simp [stopOwnTimers, hr]
  | mirror => rw [fits_mirror h] at hr; rw [fits_mirror (by exact h)]; simp [stopOwnTimers, hr]
  | stale => rw [fits_stale h] at hr; rw [fits_stale (by exact h)]; simp [stopOwnTimers, hr]
  | disputed =>
    obtain ⟨hvalue, hparties, hrest⟩ := (fits_disputed h).mp hr
    exact (fits_disputed (by exact h)).mpr ⟨hvalue, hparties, by simp [stopOwnTimers, hrest]⟩

theorem tick_turns : r.Turns src ok own r.tick := by
  refine .of_fits (fun _ hr => ?_) rfl rfl rfl
  cases h : r.state with
  | vacant => rw [fits_vacant h] at hr; rw [fits_vacant (by exact h)]; simp [tick, tickTimer, hr]
  | claiming => rw [fits_claiming h] at hr; rw [fits_claiming (by exact h)]; simp [tick, tickTimer, hr]
  | held => rw [fits_held h] at hr; rw [fits_held (by exact h)]; simp [tick, tickTimer, hr]
  | mirror => rw [fits_mirror h] at hr; rw [fits_mirror (by exact h)]; simp [tick, tickTimer, hr]
  | stale => rw [fits_stale h] at hr; rw [fits_stale (by exact h)]; simp [tick, tickTimer, hr]
  | disputed =>
    obtain ⟨hvalue, hparties, hrest⟩ := (fits_disputed h).mp hr
    exact (fits_disputed (by exact h)).mpr ⟨hvalue, hparties, by simp [tick, tickTimer, hrest]⟩

/-! ### Notifications (R92 to R95) -/

theorem markedDown_turns (x : Addr) : r.Turns src ok own (r.markedDown x) := by
  unfold markedDown
  split
  · rename_i h
    exact toStale_turns h.1
  · split
    · rename_i h
      exact dropContender_turns h.1
    · exact .refl r

theorem forgotten_turns (x : Addr) : r.Turns src ok own (r.forgotten x) := by
  have hother (y : Addr) (h : otherClaimant r.claimant x = some y) : r.claimant = some y := by
    unfold otherClaimant at h
    split at h
    · cases h
    · exact h
  unfold forgotten
  split
  · rename_i h
    refine vacate_turns (fun _ hr he => ?_) fun y hy => .inl (.inr (.inl (hother y hy)))
    have hmirrored := fits_mirrored (h.1.imp id .inl) hr
    exact hmirrored.1 (hother own he)
  · split
    · rename_i h
      obtain ⟨hs, -, hc⟩ := h
      obtain ⟨y, hy⟩ := Option.isSome_iff_exists.mp hc
      rw [hy]
      refine mirrorOf_turns (.inl (.inr (.inr hy))) fun _ hr => ?_
      obtain ⟨-, ⟨_, y', -, hy', -, hown, -⟩, -⟩ := (fits_disputed hs).mp hr
      rw [hy] at hy'
      cases hy'
      exact ⟨hown, by simp [valueFitsLength]⟩
    · split
      · rename_i h
        exact dropContender_turns h.1
      · split
        · rename_i h
          refine claimant_turns h (fun _ hr he => ?_) fun y hy => .inl (.inr (.inl (hother y hy)))
          have hclaimant := hother own he
          rcases h with h | h
          · obtain ⟨-, hne, -⟩ := (fits_vacant h).mp hr
            exact hne hclaimant
          · obtain ⟨-, -, hne, -⟩ := (fits_stale h).mp hr
            exact hne hclaimant
        · exact .refl r

theorem afterRestart_turns (x : Addr) : r.Turns src ok own (r.afterRestart x) := by
  unfold afterRestart
  split
  · rename_i h
    exact vacate_turns (fun _ hr => (fits_mirrored h.1 hr).1) fun y hy => .inl (.inr (.inl hy))
  · split
    · rename_i h
      exact dropContender_turns h.1
    · exact .refl r

theorem markedDown_countsAs (x : Addr) : r.CountsAs (r.markedDown x) := by
  unfold markedDown
  split
  · rename_i h
    rcases h.1 with h | h <;> simp [CountsAs, toStale, h]
  · split
    · rename_i h
      simp [CountsAs, dropContender, h.1]
    · exact .of_state rfl

theorem forgotten_countsAs (x : Addr) : r.CountsAs (r.forgotten x) := by
  unfold forgotten
  split
  · rename_i h
    rcases h.1 with h | h <;> simp [CountsAs, vacated, h]
  · split
    · rename_i h
      simp [CountsAs, mirrored, h.1]
    · split
      · rename_i h
        simp [CountsAs, dropContender, h.1]
      · split <;> exact .of_state rfl

theorem afterRestart_countsAs (x : Addr) : r.CountsAs (r.afterRestart x) := by
  unfold afterRestart
  split
  · rename_i h
    rcases h.1 with h | h | h <;> simp [CountsAs, vacated, h]
  · split
    · rename_i h
      simp [CountsAs, dropContender, h.1]
    · exact .of_state rfl

end PointRecord
end Sys2Proof.Machine
end

section
/-! SUPPORT. The moves of the part: every step is a chain of them (O2, O54, O55, O57, O58). Each is small enough that it
keeps every invariant by itself, and says no more of the rules than the invariants ask. -/

namespace Sys2Proof.Machine

/-! ### The parts of the state that the invariants read -/

/-- From `s` to `t` nothing changes but what no invariant of a move reads: pins, counters, Host Port and events, and the
sender's own lists. The commands that wait stay as well. -/
def State.SameCore (s t : State) : Prop :=
  t.straps = s.straps ∧ t.ctrl = s.ctrl ∧ t.points = s.points ∧ t.heldCount = s.heldCount ∧
    t.claimingCount = s.claimingCount ∧ t.tx = s.tx ∧ t.line = s.line ∧ t.rx = s.rx ∧ t.roster = s.roster ∧
    t.pending = s.pending

/-- It holds of any two states that agree so far, whatever else differs. -/
theorem State.SameCore.refl (s : State) : s.SameCore s := ⟨rfl, rfl, rfl, rfl, rfl, rfl, rfl, rfl, rfl, rfl⟩

/-- The Scheduler's lists lose entries and gain none; a built frame may be lost unless it is in flight, and no other is
built. -/
structure Scheduler.Sheds (t u : Scheduler) : Prop where
  control : u.control.Sublist t.control
  publish : u.publish.Sublist t.publish
  flying : u.flying = t.flying
  body : ∀ b, u.frame = some b → ∃ b', t.frame = some b' ∧ b.frame.body = b'.frame.body

/-- A ladder runs exactly on an idle line, with slots 0 to N in a round, offered from the next round at the latest (R109,
R147). -/
def Line.LadderFits (n : SegmentSize) (l : Line) : Prop :=
  (l.ladder.isSome = true ↔ l.state = .idle) ∧
  ∀ k, l.ladder = some k → k.next ≤ n.toNat + 1 ∧ k.offeredFrom ≤ k.round + 1

/-- Station state and configuration stay, the timers run on as they ran or the lease starts again, and the fresh-start
marker is not set (R7, R113, R197). -/
structure Controller.Retimed (c d : Controller) : Prop where
  state : d.state = c.state
  config : d.config = c.config
  freshStart : d.freshStart = true → c.freshStart = true
  listenTimer : d.listenTimer.isSome = c.listenTimer.isSome
  presenceTimer : d.presenceTimer.isSome = c.presenceTimer.isSome
  leaseTimer : d.leaseTimer.isSome = c.leaseTimer.isSome ∨
    (c.state = .active ∧ d.leaseTimer.isSome = decide (c.config.lease ≠ 0))

/-- The entry stands for a PRESENT or SILENT peer. -/
def PeerEntry.known (e : PeerEntry) : Prop := e.state = .present ∨ e.state = .silent

/-- The session is over, or has not begun: nothing is held of it (R28, R29, R118). -/
structure State.Blank (t : State) : Prop where
  offline : t.ctrl.state = .offline
  listenTimer : t.ctrl.listenTimer = none
  presenceTimer : t.ctrl.presenceTimer = none
  leaseTimer : t.ctrl.leaseTimer = none
  freshStart : t.ctrl.freshStart = false
  points : ∀ p, t.pt p = { subscribed := (t.pt p).subscribed }
  heldCount : t.heldCount = 0
  claimingCount : t.claimingCount = 0
  control : t.tx.control = []
  publish : t.tx.publish = []
  frame : t.tx.frame = none
  line : t.line.state = .off
  ladder : t.line.ladder = none
  rx : t.rx = {}
  roster : ∀ x, t.peer x = {}

/-! ### The moves -/

/-- One move of the part. `src` is the source of the frame whose item is taken, and `ok` says that reception fits, in which
case the shapes of records are kept. -/
inductive State.Move (src : Option Addr) (ok : Prop) : State → State → Prop
  /-- Nothing that an invariant reads changes. -/
  | quiet {s t : State} (h : s.SameCore t) : Move src ok s t
  /-- A record changes and counts as before. -/
  | put {s : State} (p : PointId) (r : PointRecord) (hr : (s.pt p).Turns src ok s.own r) (hc : (s.pt p).CountsAs r) :
      Move src ok s (s.setPt p r)
  /-- Every record changes within its state. -/
  | table {s : State} (points : Vector PointRecord 256)
      (hr : ∀ p : PointId, (s.pt p).Turns src ok s.own points[p])
      (hc : ∀ p : PointId, points[p].state = (s.pt p).state) : Move src ok s { s with points := points }
  /-- A claim ends without a holding. -/
  | unclaim {s : State} (p : PointId) (r : PointRecord) (tx : Scheduler) (hr : (s.pt p).Turns src ok s.own r)
      (hold : (s.pt p).state = .claiming) (hnew : r.uncounted) (htx : s.tx.Sheds tx) :
      Move src ok s { s.setPt p r with claimingCount := s.claimingCount - 1, tx := tx }
  /-- A holding ends. -/
  | unhold {s : State} (p : PointId) (r : PointRecord) (tx : Scheduler) (hr : (s.pt p).Turns src ok s.own r)
      (hold : (s.pt p).state = .held) (hnew : r.uncounted) (htx : s.tx.Sheds tx) (hp : p ∉ tx.publish) :
      Move src ok s { s.setPt p r with heldCount := s.heldCount - 1, tx := tx }
  /-- A claim begins, within the limits of R25. -/
  | claim {s : State} (p : PointId) (r : PointRecord) (hr : (s.pt p).Turns src ok s.own r)
      (hold : (s.pt p).uncounted) (hnew : r.state = .claiming) (hclaiming : s.claimingCount < Config.claimLimit)
      (hheld : s.heldCount + s.claimingCount < Config.holdLimit) :
      Move src ok s { s.setPt p r with claimingCount := s.claimingCount + 1 }
  /-- A claim is won. -/
  | win {s : State} (p : PointId) (r : PointRecord) (hr : (s.pt p).Turns src ok s.own r)
      (hold : (s.pt p).state = .claiming) (hnew : r.state = .held) :
      Move src ok s { s.setPt p r with heldCount := s.heldCount + 1, claimingCount := s.claimingCount - 1 }
  /-- The Scheduler's lists lose entries. -/
  | shed {s : State} (tx : Scheduler) (htx : s.tx.Sheds tx) : Move src ok s { s with tx := tx }
  /-- The control list takes a request, or an id into a request. -/
  | request {s : State} (control : List Request) (hst : s.station = .active ∨ s.station = .detached)
      (hnodup : s.tx.control.Nodup → control.Nodup)
      (hlength : s.tx.control.length ≤ Config.controlCapacity → control.length ≤ Config.controlCapacity)
      (hfarewell : Request.farewell ∈ control → Request.farewell ∈ s.tx.control) :
      Move src ok s { s with tx := { s.tx with control := control } }
  /-- The publish list takes the id of a HELD point. -/
  | publish {s : State} (p : PointId) (hst : s.station = .active) (hp : (s.pt p).state = .held) :
      Move src ok s (s.appendPublish p)
  /-- The line changes, and is OFF or SENDING as before. -/
  | line {s : State} (line : Line) (hoff : line.state = .off ↔ s.line.state = .off)
      (hsending : line.state = .sending ↔ s.line.state = .sending)
      (hladder : s.line.LadderFits s.n → line.LadderFits s.n) : Move src ok s { s with line := line }
  /-- A frame begins in a slot. -/
  | send {s : State} (b : BuiltFrame) (slot : Nat) (hidle : s.line.state = .idle)
      (hst : s.station = .active ∨ s.station = .detached ∨ s.station = .leaving)
      (hbody : b.frame.body = .farewell →
        s.station = .leaving ∨ ∃ b', s.tx.frame = some b' ∧ b'.frame.body = .farewell) : Move src ok s (s.send b slot)
  /-- The frame in flight ends or is aborted. -/
  | ground {s : State} (line : Line) (frame : Option BuiltFrame) (hsending : s.line.state = .sending)
      (hoff : line.state ≠ .off) (hnot : line.state ≠ .sending) (hladder : line.LadderFits s.n)
      (hframe : ∀ b, frame = some b →
        (∃ b', s.tx.frame = some b' ∧ b.frame.body = b'.frame.body) ∧ ∀ k, b.place ≠ .inFlight k) :
      Move src ok s { s with line := line, tx := { s.tx with frame := frame } }
  /-- The station timers run on. -/
  | retime {s : State} (ctrl : Controller) (h : s.ctrl.Retimed ctrl) : Move src ok s { s with ctrl := ctrl }
  /-- The configuration is replaced. -/
  | configure {s : State} (config : Configuration) (h : s.station = .offline) :
      Move src ok s { s with ctrl := { s.ctrl with config := config, locked := true } }
  /-- OFFLINE to LISTENING. -/
  | listening {s : State} (h : s.station = .offline) (hsrc : src = none) : Move src ok s s.enterListening
  /-- LISTENING to ACTIVE. -/
  | active {s : State} (h : s.station = .listening) : Move src ok s s.enterActive
  /-- ACTIVE to DETACHED, before the claims are lost. -/
  | detached {s : State} (cause : Cause) (h : s.station = .active) :
      Move src ok s { s with
        ctrl := { s.ctrl with state := .detached, cause := some cause, leaseTimer := none }
        tx := { s.tx with publish := [] } }
  /-- DETACHED to ACTIVE. -/
  | resumed {s : State} (h : s.station = .detached) :
      Move src ok s { s with ctrl := { s.ctrl with
        state := .active, cause := some .host, leaseTimer := s.ctrl.config.leaseStart } }
  /-- ACTIVE or DETACHED to LEAVING. -/
  | leaving {s : State} (h : s.station = .active ∨ s.station = .detached) : Move src ok s s.enterLeaving
  /-- The entry to CLASHED. -/
  | clashed {s : State} (h : s.takesFrames = true) : Move src ok s s.enterClashed
  /-- Session end, or reset. -/
  | blank {s t : State} (h : t.Blank) (hsrc : src = none) (hpending : t.pending = s.pending) : Move src ok s t
  /-- Entries of the roster change, and none that stood for a peer does so no longer. -/
  | peers {s : State} (roster : Vector PeerEntry 32)
      (hfits : ∀ x : Addr, (s.peer x).fits = true → roster[x].fits = true)
      (hknown : ∀ x : Addr, (s.peer x).known → roster[x].known)
      (habsent : ∀ x : Addr, s.hasPeer x = false ∨ s.station = .offline →
        (s.peer x).state = .absent → roster[x].state = .absent) : Move src ok s { s with roster := roster }
  /-- A peer is GONE, and with it its names and what remains of its frame being applied. -/
  | gone {s : State} (x : Addr) (points : Vector PointRecord 256) (rx : Receiver) (hsrc : src = none)
      (hx : (s.peer x).state ≠ .absent) (hpoints : ∀ p : PointId, points[p] = (s.pt p).forgotten x)
      (hfifo : rx.fifo = s.rx.fifo)
      (happlying : rx.applying = none ∨ (rx.applying = s.rx.applying ∧
        ∀ a, s.rx.applying = some a → FrameItem.roster ∉ a.items → a.frame.source ≠ x)) :
      Move src ok s { s with points := points, roster := s.roster.set x (s.peer x).goneEntry, rx := rx }
  /-- A frame is taken into the FIFO, out of it, or item by item. -/
  | reception {s : State} (rx : Receiver) (hfits : s.ReceptionFits → State.ReceptionFits { s with rx := rx })
      (hknown : ok → ∀ a, rx.applying = some a → FrameItem.roster ∉ a.items → (s.peer a.frame.source).known ∨
        ∃ a', s.rx.applying = some a' ∧ a'.frame.source = a.frame.source ∧ FrameItem.roster ∉ a'.items) :
      Move src ok s { s with rx := rx }

/-- A chain of moves. -/
def State.Moves (src : Option Addr) (ok : Prop) : State → State → Prop := Relation.ReflTransGen (State.Move src ok)

/-- What every move keeps, a chain of moves keeps. -/
theorem State.Moves.keep {src : Option Addr} {ok : Prop} {P : State → Prop} {s t : State} (h : State.Moves src ok s t)
    (hP : ∀ u v, State.Move src ok u v → P u → P v) (hs : P s) : P t := by
  induction h with
  | refl => exact hs
  | tail _ hmove ih => exact hP _ _ hmove ih

/-- No move takes a command out of the queue or puts one in (R20). -/
theorem State.Move.pending {src : Option Addr} {ok : Prop} {s t : State} (h : State.Move src ok s t) :
    t.pending = s.pending := by
  cases h
  case quiet h =>
    obtain ⟨-, -, -, -, -, -, -, -, -, hpending⟩ := h
    exact hpending
  case blank hpending => exact hpending
  all_goals rfl

end Sys2Proof.Machine
end

section
/-! SUPPORT. Every move keeps every invariant: records and reception (O54), counts and lists (O55), timers, line and work
(O57), roster and names (O58). -/

namespace Sys2Proof.Machine

namespace State

/-! ### Records and reception -/

@[simp] theorem pt_map (s : State) (f : PointRecord → PointRecord) (p : PointId) :
    State.pt { s with points := s.points.map f } p = f (s.pt p) := by
  simp [State.pt]

theorem pt_enterLeaving (s : State) (p : PointId) : s.enterLeaving.pt p = (s.pt p).stopOwnTimers :=
  State.pt_map s PointRecord.stopOwnTimers p

theorem RecordsFit.setPt {s : State} (hs : s.RecordsFit) (p : PointId) {r : PointRecord} (hr : r.fits s.own = true) :
    (s.setPt p r).RecordsFit := by
  intro q
  rw [State.pt_setPt]
  split
  · exact hr
  · exact hs q

/-- A blank state holds no record but vacant ones that name no station. -/
theorem Blank.fits {t : State} (h : t.Blank) (own : Addr) (p : PointId) : (t.pt p).fits own = true := by
  rw [h.points p]
  simp [PointRecord.fits_vacant]

theorem Move.recordsFit {src : Option Addr} {ok : Prop} {s t : State} (h : State.Move src ok s t) (hok : ok)
    (hs : s.RecordsFit) : t.RecordsFit := by
  cases h with
  | quiet h =>
    obtain ⟨hstraps, -, hpoints, -⟩ := h
    intro p
    rw [State.pt_congr hpoints, State.own, hstraps]
    exact hs p
  | put p r hr _ => exact hs.setPt p (hr.fits hok (hs p))
  | unclaim p r _ hr _ _ _ => exact hs.setPt p (hr.fits hok (hs p))
  | unhold p r _ hr _ _ _ _ => exact hs.setPt p (hr.fits hok (hs p))
  | claim p r hr _ _ _ _ => exact hs.setPt p (hr.fits hok (hs p))
  | win p r hr _ _ => exact hs.setPt p (hr.fits hok (hs p))
  | table points hr _ => exact fun p => (hr p).fits hok (hs p)
  | gone x points _ _ _ hpoints _ _ =>
    intro p
    have hpt : State.pt { s with points := points } p = (s.pt p).forgotten x := hpoints p
    have hturns := PointRecord.forgotten_turns (src := src) (ok := ok) (own := s.own) (r := s.pt p) x
    exact hpt ▸ hturns.fits hok (hs p)
  | leaving _ =>
    intro p
    have hturns := PointRecord.stopOwnTimers_turns (src := src) (ok := ok) (own := s.own) (r := s.pt p)
    exact (State.pt_enterLeaving s p) ▸ hturns.fits hok (hs p)
  | blank h _ _ => exact h.fits _
  | _ => exact hs

/-- Reception is read of the frames, the station state, the configuration and the own address alone. -/
theorem ReceptionFits.congr {s t : State} (hs : s.ReceptionFits) (hrx : t.rx = s.rx) (hstraps : t.straps = s.straps)
    (hn : t.n = s.n) (htakes : t.takesFrames = s.takesFrames) : t.ReceptionFits := by
  unfold State.ReceptionFits State.frameFits State.own at *
  rwa [hrx, hstraps, hn, htakes]

theorem receptionFits_empty {t : State} (h : t.rx = {}) : t.ReceptionFits := by
  unfold State.ReceptionFits
  rw [h]
  simp

/-- Where no frames are taken none waits and none is being applied. -/
theorem ReceptionFits.rx_empty {s : State} (hs : s.ReceptionFits) (h : s.takesFrames = false) : s.rx = {} := by
  obtain ⟨-, -, hnone⟩ := hs
  obtain ⟨hfifo, happlying⟩ := hnone h
  cases hrx : s.rx
  simp_all

theorem takesFrames_congr {s t : State} (h : t.station = s.station) : t.takesFrames = s.takesFrames := by
  unfold State.takesFrames
  rw [h]

theorem Move.receptionFits {src : Option Addr} {ok : Prop} {s t : State} (h : State.Move src ok s t)
    (hs : s.ReceptionFits) : t.ReceptionFits := by
  cases h with
  | quiet h =>
    obtain ⟨hstraps, hctrl, -, -, -, -, -, hrx, -⟩ := h
    exact hs.congr hrx hstraps (by rw [State.n, hctrl]) (State.takesFrames_congr (by rw [State.station, hctrl]))
  | configure config h =>
    have hnone : s.takesFrames = false := by simp [State.takesFrames, h]
    exact State.receptionFits_empty (hs.rx_empty hnone)
  | listening h _ =>
    have hnone : s.takesFrames = false := by simp [State.takesFrames, h]
    exact State.receptionFits_empty (hs.rx_empty hnone)
  | active h => exact hs.congr rfl rfl rfl (by simp [State.takesFrames, State.enterActive, h])
  | detached cause h => exact hs.congr rfl rfl rfl (by simp [State.takesFrames, h])
  | resumed h => exact hs.congr rfl rfl rfl (by simp [State.takesFrames, h])
  | retime ctrl h =>
    exact hs.congr rfl rfl (by rw [State.n, h.config]) (State.takesFrames_congr h.state)
  | leaving _ => exact State.receptionFits_empty rfl
  | clashed _ => exact State.receptionFits_empty rfl
  | blank h _ _ => exact State.receptionFits_empty h.rx
  | reception _ hfits _ => exact hfits hs
  | gone x _ rx _ _ _ hfifo happlying =>
    obtain ⟨hwaiting, hcurrent, hnone⟩ := hs
    refine ⟨fun f hf => hwaiting f (hfifo ▸ hf), fun a ha => ?_, fun htakes => ?_⟩
    · rcases happlying with h | ⟨h, -⟩
      · simp [h] at ha
      · exact hcurrent a (h ▸ ha)
    · obtain ⟨hnofifo, hnoapplying⟩ := hnone htakes
      refine ⟨hfifo.trans hnofifo, ?_⟩
      rcases happlying with h | ⟨h, -⟩
      · exact h
      · exact h.trans hnoapplying
  | _ => exact hs

/-! ### Counts -/

/-- Two predicates that differ at one element of a list without repeats. -/
theorem countP_update {α : Type} {l : List α} (hl : l.Nodup) {p : α} (hp : p ∈ l) {f g : α → Bool}
    (h : ∀ q, q ≠ p → g q = f q) : l.countP g + (f p).toNat = l.countP f + (g p).toNat := by
  induction l with
  | nil => cases hp
  | cons a l ih =>
    obtain ⟨ha, hl⟩ := List.nodup_cons.mp hl
    rw [List.countP_cons, List.countP_cons]
    rcases List.mem_cons.mp hp with rfl | hp
    · have hrest : l.countP g = l.countP f :=
        List.countP_congr fun q hq => by rw [h q fun e => ha (e ▸ hq)]
      rw [hrest]
      cases f p <;> cases g p <;> simp
    · have hne : a ≠ p := fun e => ha (e ▸ hp)
      have := ih hl hp
      rw [h a hne]
      omega

theorem countOf_setPt (s : State) (p : PointId) (r : PointRecord) (st : PointState) :
    (s.setPt p r).countOf st + (decide ((s.pt p).state = st)).toNat =
      s.countOf st + (decide (r.state = st)).toNat := by
  have hupdate := countP_update allPoints_nodup (mem_allPoints p)
    (f := fun q => decide ((s.pt q).state = st)) (g := fun q => decide (((s.setPt p r).pt q).state = st))
    fun q hq => by rw [State.pt_setPt_other s r hq]
  simp only [State.pt_setPt_same] at hupdate
  exact hupdate

theorem countOf_congr {s t : State} {st : PointState} (h : ∀ p, (t.pt p).state = st ↔ (s.pt p).state = st) :
    t.countOf st = s.countOf st :=
  List.countP_congr fun p _ => by simpa using h p

theorem countOf_pos {s : State} {p : PointId} {st : PointState} (h : (s.pt p).state = st) : 0 < s.countOf st :=
  List.countP_pos_iff.mpr ⟨p, mem_allPoints p, by simpa using h⟩

/-- The counts are read of the table's states and of the two counts alone. -/
theorem CountsAgree.congr {s t : State} (hs : s.CountsAgree) (hpt : ∀ p, (s.pt p).CountsAs (t.pt p))
    (hheld : t.heldCount = s.heldCount) (hclaiming : t.claimingCount = s.claimingCount) : t.CountsAgree := by
  have h1 : t.countOf .held = s.countOf .held := countOf_congr fun p => (hpt p).1
  have h2 : t.countOf .claiming = s.countOf .claiming := countOf_congr fun p => (hpt p).2
  unfold State.CountsAgree at *
  rwa [hheld, hclaiming, h1, h2]

theorem countsAs_setPt {s : State} {p : PointId} {r : PointRecord} (h : (s.pt p).CountsAs r) (q : PointId) :
    (s.pt q).CountsAs ((s.setPt p r).pt q) := by
  rw [State.pt_setPt]
  split
  · rename_i hq
    exact hq ▸ h
  · exact .of_state rfl

theorem Move.countsAgree {src : Option Addr} {ok : Prop} {s t : State} (h : State.Move src ok s t)
    (hs : s.CountsAgree) : t.CountsAgree := by
  obtain ⟨hheld, hclaiming, hlimit, htotal⟩ := id hs
  cases h with
  | quiet h =>
    obtain ⟨-, -, hpoints, hheld, hclaiming, -⟩ := h
    exact hs.congr (fun p => .of_state (by rw [State.pt_congr hpoints])) hheld hclaiming
  | put p r _ hc => exact hs.congr (countsAs_setPt hc) rfl rfl
  | table points _ hc => exact hs.congr (fun p => .of_state (hc p)) rfl rfl
  | gone x points _ _ _ hpoints _ _ =>
    refine hs.congr (fun p => ?_) rfl rfl
    show (s.pt p).CountsAs points[p]
    rw [hpoints p]
    exact PointRecord.forgotten_countsAs x
  | leaving _ => exact hs.congr (fun p => .of_state (by rw [State.pt_enterLeaving]; rfl)) rfl rfl
  | unclaim p r tx _ hold hnew _ =>
    have hh := countOf_setPt s p r .held
    have hc := countOf_setPt s p r .claiming
    simp [hold, hnew.1, hnew.2] at hh hc
    change s.heldCount = (s.setPt p r).countOf .held ∧ s.claimingCount - 1 = (s.setPt p r).countOf .claiming ∧
      s.claimingCount - 1 ≤ Config.claimLimit ∧ s.heldCount + (s.claimingCount - 1) ≤ Config.holdLimit
    omega
  | unhold p r tx _ hold hnew _ _ =>
    have hh := countOf_setPt s p r .held
    have hc := countOf_setPt s p r .claiming
    simp [hold, hnew.1, hnew.2] at hh hc
    change s.heldCount - 1 = (s.setPt p r).countOf .held ∧ s.claimingCount = (s.setPt p r).countOf .claiming ∧
      s.claimingCount ≤ Config.claimLimit ∧ s.heldCount - 1 + s.claimingCount ≤ Config.holdLimit
    omega
  | claim p r _ hold hnew hclaim hhold =>
    have hh := countOf_setPt s p r .held
    have hc := countOf_setPt s p r .claiming
    simp [hold.1, hold.2, hnew] at hh hc
    change s.heldCount = (s.setPt p r).countOf .held ∧ s.claimingCount + 1 = (s.setPt p r).countOf .claiming ∧
      s.claimingCount + 1 ≤ Config.claimLimit ∧ s.heldCount + (s.claimingCount + 1) ≤ Config.holdLimit
    omega
  | win p r _ hold hnew =>
    have hh := countOf_setPt s p r .held
    have hc := countOf_setPt s p r .claiming
    have hpos := countOf_pos hold
    simp [hold, hnew] at hh hc
    change s.heldCount + 1 = (s.setPt p r).countOf .held ∧ s.claimingCount - 1 = (s.setPt p r).countOf .claiming ∧
      s.claimingCount - 1 ≤ Config.claimLimit ∧ s.heldCount + 1 + (s.claimingCount - 1) ≤ Config.holdLimit
    omega
  | blank h _ _ =>
    have hzero (st : PointState) (hst : st ≠ .vacant) : t.countOf st = 0 := by
      refine List.countP_eq_zero.mpr fun p _ => ?_
      rw [h.points p]
      simpa using hst.symm
    unfold State.CountsAgree
    rw [hzero .held (by decide), hzero .claiming (by decide), h.heldCount, h.claimingCount]
    decide
  | _ => exact hs

/-! ### The publish list and the control list -/

/-- The publish list loses entries, and no record on it leaves HELD. -/
theorem PublishListFits.sublist {s t : State} (hs : s.PublishListFits) (hpublish : t.tx.publish.Sublist s.tx.publish)
    (hheld : ∀ p ∈ t.tx.publish, (s.pt p).state = .held → (t.pt p).state = .held) : t.PublishListFits := by
  obtain ⟨hnodup, hall⟩ := hs
  exact ⟨hpublish.nodup hnodup, fun p hp => hheld p hp (hall p (hpublish.subset hp))⟩

theorem held_setPt {s : State} {p q : PointId} {r : PointRecord} (hr : q = p → (s.pt p).state = .held → r.state = .held)
    (h : (s.pt q).state = .held) : ((s.setPt p r).pt q).state = .held := by
  rw [State.pt_setPt]
  split
  · rename_i hq
    exact hr hq (hq ▸ h)
  · exact h

theorem Move.publishListFits {src : Option Addr} {ok : Prop} {s t : State} (h : State.Move src ok s t)
    (hs : s.PublishListFits) : t.PublishListFits := by
  cases h with
  | quiet h =>
    obtain ⟨-, -, hpoints, -, -, htx, -⟩ := h
    exact hs.sublist (by rw [htx]) fun p _ hp => by rwa [State.pt_congr hpoints]
  | put p r _ hc => exact hs.sublist (List.Sublist.refl _) fun q _ => held_setPt fun _ => hc.1.mpr
  | table points _ hc => exact hs.sublist (List.Sublist.refl _) fun p _ hp => (hc p).trans hp
  | gone x points _ _ _ hpoints _ _ =>
    refine hs.sublist (List.Sublist.refl _) fun p _ hp => ?_
    show points[p].state = .held
    rw [hpoints p]
    exact (PointRecord.forgotten_countsAs x).1.mpr hp
  | unclaim p r tx _ hold _ htx =>
    exact hs.sublist htx.publish fun q _ => held_setPt (s := s) fun _ hp => by simp [hold] at hp
  | unhold p r tx _ _ _ htx hp =>
    exact hs.sublist htx.publish fun q hq => held_setPt (s := s) fun e _ => absurd (e ▸ hq) hp
  | claim p r _ hold _ _ _ =>
    exact hs.sublist (List.Sublist.refl _) fun q _ => held_setPt (s := s) fun _ hp => absurd hp hold.1
  | win p r _ _ hnew => exact hs.sublist (List.Sublist.refl _) fun q _ => held_setPt (s := s) fun _ _ => hnew
  | shed tx htx => exact hs.sublist htx.publish fun _ _ => id
  | publish p _ hp =>
    obtain ⟨hnodup, hall⟩ := hs
    refine ⟨Scheduler.nodup_publishId p hnodup, fun q hq => ?_⟩
    rw [State.pt_appendPublish]
    rcases (Scheduler.mem_publishId s.tx p q).mp hq with hq | rfl
    · exact hall q hq
    · exact hp
  | detached cause _ => exact hs.sublist (List.nil_sublist _) fun _ _ => id
  | leaving _ => exact hs.sublist (List.nil_sublist _) fun _ hp => by cases hp
  | clashed _ => exact hs
  | blank h _ _ => exact hs.sublist (by rw [h.publish]; exact List.nil_sublist _) fun p hp => by simp [h.publish] at hp
  | _ => exact hs

theorem Move.controlListFits {src : Option Addr} {ok : Prop} {s t : State} (h : State.Move src ok s t)
    (hs : s.ControlListFits) : t.ControlListFits := by
  have hsheds {tx : Scheduler} (htx : s.tx.Sheds tx) :
      tx.control.Nodup ∧ tx.control.length ≤ Config.controlCapacity :=
    ⟨htx.control.nodup hs.1, htx.control.length_le.trans hs.2⟩
  cases h with
  | quiet h =>
    obtain ⟨-, -, -, -, -, htx, -⟩ := h
    unfold State.ControlListFits at *
    rwa [htx]
  | unclaim _ _ _ _ _ _ htx => exact hsheds htx
  | unhold _ _ _ _ _ _ htx _ => exact hsheds htx
  | shed _ htx => exact hsheds htx
  | request control _ hnodup hlength _ => exact ⟨hnodup hs.1, hlength hs.2⟩
  | publish p _ _ =>
    unfold State.ControlListFits at *
    rwa [State.appendPublish_tx, Scheduler.publishId_control]
  | leaving _ =>
    have hcontrol : s.enterLeaving.tx.control = [.farewell] := rfl
    unfold State.ControlListFits
    rw [hcontrol]
    decide
  | blank h _ _ =>
    unfold State.ControlListFits
    rw [h.control]
    decide
  | _ => exact hs

end State
end Sys2Proof.Machine
end

section
/-! SUPPORT. Every move keeps the station's timers, its line and its work (O57), and the roster and the names (O58). -/

namespace Sys2Proof.Machine

namespace State

/-! ### The station timers -/

theorem leaseStart_isSome (c : Configuration) : c.leaseStart.isSome = decide (c.lease ≠ 0) := by
  unfold Configuration.leaseStart
  split <;> simp_all

theorem Move.timersFit {src : Option Addr} {ok : Prop} {s t : State} (h : State.Move src ok s t) (hs : s.TimersFit) :
    t.TimersFit := by
  obtain ⟨hlisten, hpresence, hlease, hfresh⟩ := id hs
  cases h with
  | quiet h =>
    obtain ⟨-, hctrl, -⟩ := h
    unfold State.TimersFit State.station at *
    rwa [hctrl]
  | retime ctrl h =>
    unfold State.TimersFit State.station at *
    rw [h.state, h.config, h.listenTimer, h.presenceTimer]
    refine ⟨hlisten, hpresence, ?_, fun hf => hfresh (h.freshStart hf)⟩
    rcases h.leaseTimer with he | ⟨hactive, he⟩
    · rw [he]
      exact hlease
    · simp [he, hactive]
  | configure config h => simp_all [State.TimersFit]
  | listening h _ => simp_all [State.TimersFit, State.enterListening, State.station]
  | active h => simp_all [State.TimersFit, State.enterActive, leaseStart_isSome]
  | detached cause h => simp_all [State.TimersFit]
  | resumed h => simp_all [State.TimersFit, leaseStart_isSome]
  | leaving h => rcases h with h | h <;> simp_all [State.TimersFit, State.enterLeaving]
  | clashed h =>
    rcases s.takesFrames_iff.mp h with h | h | h <;> simp_all [State.TimersFit, State.enterClashed]
  | blank h _ _ =>
    simp [State.TimersFit, h.listenTimer, h.presenceTimer, h.leaseTimer, h.freshStart, h.offline]
  | _ => exact hs

/-! ### The line -/

/-- The line's invariant is read of the line, the flight of a frame, the station state and the configuration alone. -/
theorem LineFits.congr {s t : State} (hs : s.LineFits) (hline : t.line = s.line) (hflying : t.tx.flying = s.tx.flying)
    (hstation : t.station = s.station) (hn : t.n = s.n) : t.LineFits := by
  unfold State.LineFits at *
  rwa [hline, hflying, hstation, hn]

theorem LineFits.ladderFits {s : State} (hs : s.LineFits) : s.line.LadderFits s.n := hs.2.2.2

theorem flying_leaving (t : Scheduler) : t.leaving.flying = t.flying := by
  cases hf : t.frame with
  | none => simp [Scheduler.flying, Scheduler.leaving, hf]
  | some b => cases hp : b.place <;> simp [Scheduler.flying, Scheduler.leaving, hf, hp]

theorem flying_publishId (t : Scheduler) (p : PointId) : (t.publishId p).flying = t.flying := by
  simp [Scheduler.flying]

/-- A line that is not OFF stands as before, under a station state that is not OFFLINE. -/
theorem LineFits.restation {s t : State} (hs : s.LineFits) (hold : s.station ≠ .offline) (hnew : t.station ≠ .offline)
    (hflight : s.tx.flying = true → t.station = .active ∨ t.station = .detached ∨ t.station = .leaving)
    (hline : t.line = s.line) (hflying : t.tx.flying = s.tx.flying) (hn : t.n = s.n) : t.LineFits := by
  obtain ⟨hoff, hsending, -, hladder⟩ := hs
  unfold State.LineFits
  rw [hline, hflying, hn]
  exact ⟨by simp [hoff, hold, hnew], hsending, hflight, hladder⟩

/-- The cut leaves no frame in flight and the line not SENDING (R120). -/
theorem LineFits.cut {s : State} (hs : s.LineFits) (hst : s.station ≠ .offline) : s.enterClashed.LineFits := by
  obtain ⟨hoff, -, -, hladder⟩ := hs
  have hflying : s.enterClashed.tx.flying = false := Scheduler.cutOff_flies s.tx
  have hstation : s.enterClashed.station = .clashed := rfl
  have hn : s.enterClashed.n = s.n := rfl
  unfold State.LineFits
  rw [hflying, hstation, hn, State.enterClashed_line]
  rcases s.line.cutOff_cases with ⟨-, hcut⟩ | ⟨hnot, hcut⟩
  · simp [hcut]
  · rw [hcut]
    exact ⟨by simp [hoff, hst], by simp [hnot], by simp, hladder⟩

theorem Move.lineFits {src : Option Addr} {ok : Prop} {s t : State} (h : State.Move src ok s t) (hs : s.LineFits) :
    t.LineFits := by
  obtain ⟨hoff, hsending, hflight, hladder⟩ := id hs
  cases h with
  | quiet h =>
    obtain ⟨-, hctrl, -, -, -, htx, hline, -⟩ := h
    exact hs.congr hline (by rw [htx]) (by rw [State.station, hctrl]) (by rw [State.n, hctrl])
  | unclaim _ _ _ _ _ _ htx => exact hs.congr rfl htx.flying rfl rfl
  | unhold _ _ _ _ _ _ htx _ => exact hs.congr rfl htx.flying rfl rfl
  | shed _ htx => exact hs.congr rfl htx.flying rfl rfl
  | publish p _ _ => exact hs.congr rfl (flying_publishId s.tx p) rfl rfl
  | line line hoff' hsending' hladder' =>
    exact ⟨hoff'.trans hoff, hsending'.trans hsending, hflight, hladder' hs.ladderFits⟩
  | send b slot hidle hst _ =>
    have hoffline : s.station ≠ .offline := fun h => by simp [hoff.mpr h] at hidle
    have hstation : (s.send b slot).station = s.station := rfl
    unfold State.LineFits
    rw [hstation]
    simp [Scheduler.flying, hoffline, hst]
  | ground line frame hsend hoff' hnot hladder' hframe =>
    have hoffline : s.station ≠ .offline := fun h => by simp [hoff.mpr h] at hsend
    have hgrounded : Scheduler.flying { s.tx with frame := frame } = false := by
      cases frame with
      | none => rfl
      | some b =>
        obtain ⟨-, hplace⟩ := hframe b rfl
        cases hp : b.place with
        | inFlight k => exact absurd hp (hplace k)
        | retry _ | cutOff => simp [Scheduler.flying, hp]
    unfold State.LineFits
    rw [hgrounded]
    exact ⟨by simp [hoff', hoffline], by simp [hnot], by simp, hladder'⟩
  | retime ctrl h => exact hs.congr rfl rfl h.state (by rw [State.n, h.config])
  | configure config h =>
    have hline := hoff.mpr h
    have hnone : s.line.ladder = none := by simpa [hline] using hladder.1
    exact ⟨hoff, hsending, hflight, hladder.1, fun l hl => by simp [hnone] at hl⟩
  | listening h _ =>
    have hgrounded : s.tx.flying = false := by
      rw [← Bool.not_eq_true]
      intro hf
      rcases hflight hf with h' | h' | h' <;> simp [h] at h'
    simp [State.LineFits, State.enterListening, State.station, hgrounded]
  | active h =>
    have hline : s.enterActive.line = { s.line with ladder := s.line.ladder.map Ladder.offerNext } := rfl
    have hstation : s.enterActive.station = .active := rfl
    have hflying : s.enterActive.tx.flying = s.tx.flying := rfl
    unfold State.LineFits
    rw [hline, hstation, hflying]
    refine ⟨by simp [hoff, h], hsending, by simp, by simpa using hladder.1, fun l hl => ?_⟩
    obtain ⟨k, hk, rfl⟩ := Option.map_eq_some_iff.mp hl
    obtain ⟨hnext, -⟩ := hladder.2 k hk
    exact ⟨hnext, le_refl _⟩
  | detached cause h =>
    exact hs.restation (by simp [h]) (by simp) (fun _ => .inr (.inl rfl)) rfl rfl rfl
  | resumed h => exact hs.restation (by simp [h]) (by simp) (fun _ => .inl rfl) rfl rfl rfl
  | leaving h =>
    refine hs.restation (fun e => ?_) (by simp [State.enterLeaving]) (fun _ => .inr (.inr rfl)) rfl
      (flying_leaving s.tx) rfl
    rcases h with h | h <;> simp [h] at e
  | clashed h =>
    refine hs.cut fun e => ?_
    simp [State.takesFrames, e] at h
  | blank h _ _ => simp [State.LineFits, h.line, h.offline, Scheduler.flying, h.frame, h.ladder]
  | _ => exact hs

/-! ### The Scheduler's work -/

theorem WorkFits.congr {s t : State} (hs : s.WorkFits) (htx : t.tx = s.tx) (hstation : t.station = s.station) :
    t.WorkFits := by
  unfold State.WorkFits at *
  rwa [htx, hstation]

theorem WorkFits.shed {s t : State} (hs : s.WorkFits) (htx : s.tx.Sheds t.tx) (hstation : t.station = s.station) :
    t.WorkFits := by
  obtain ⟨hidle, hpublish, hfarewell, hbuilt⟩ := hs
  unfold State.WorkFits
  rw [hstation]
  refine ⟨fun h => ?_, fun hne => hpublish fun e => hne ?_, fun h => hfarewell (htx.control.subset h), fun b hb he => ?_⟩
  · obtain ⟨hcontrol, hlist, hframe⟩ := hidle h
    refine ⟨List.eq_nil_of_subset_nil (hcontrol ▸ htx.control.subset),
      List.eq_nil_of_subset_nil (hlist ▸ htx.publish.subset), ?_⟩
    cases hf : t.tx.frame with
    | none => rfl
    | some b =>
      obtain ⟨b', hb', -⟩ := htx.body b hf
      simp [hframe] at hb'
  · exact List.eq_nil_of_subset_nil (e ▸ htx.publish.subset)
  · obtain ⟨b', hb', hbody⟩ := htx.body b hb
    exact hbuilt b' hb' (hbody ▸ he)

/-- Where frames are taken no FAREWELL waits or is built (R117). -/
theorem WorkFits.no_farewell {s : State} (hs : s.WorkFits) (h : s.station ≠ .leaving) :
    Request.farewell ∉ s.tx.control ∧ ∀ b, s.tx.frame = some b → b.frame.body ≠ .farewell := by
  obtain ⟨-, -, hfarewell, hbuilt⟩ := hs
  exact ⟨fun hm => h (hfarewell hm), fun b hb he => h (hbuilt b hb he)⟩

theorem Move.workFits {src : Option Addr} {ok : Prop} {s t : State} (h : State.Move src ok s t) (hs : s.WorkFits) :
    t.WorkFits := by
  obtain ⟨hidle, hpublish, hfarewell, hbuilt⟩ := id hs
  cases h with
  | quiet h =>
    obtain ⟨-, hctrl, -, -, -, htx, -⟩ := h
    exact hs.congr htx (by rw [State.station, hctrl])
  | unclaim _ _ _ _ _ _ htx => exact hs.shed htx rfl
  | unhold _ _ _ _ _ _ htx _ => exact hs.shed htx rfl
  | shed _ htx => exact hs.shed htx rfl
  | request control hst _ _ hfw =>
    refine ⟨fun h => ?_, hpublish, fun h => hfarewell (hfw h), hbuilt⟩
    change s.station = .offline ∨ s.station = .listening at h
    rcases hst with hst | hst <;> simp [hst] at h
  | publish p hst hp =>
    refine ⟨fun h => ?_, fun _ => .inl hst, fun h => hfarewell (by simpa using h),
      fun b hb => hbuilt b (by simpa using hb)⟩
    change s.station = .offline ∨ s.station = .listening at h
    simp [hst] at h
  | send b slot _ hst hbody =>
    refine ⟨fun h => ?_, hpublish, hfarewell, fun b' hb' he => ?_⟩
    · change s.station = .offline ∨ s.station = .listening at h
      rcases hst with hst | hst | hst <;> simp [hst] at h
    · cases hb'
      exact (hbody he).elim id fun ⟨b', hb', he'⟩ => hbuilt b' hb' he'
  | ground line frame _ _ _ _ hframe =>
    refine ⟨fun h => ?_, hpublish, hfarewell, fun b hb he => ?_⟩
    · obtain ⟨hcontrol, hlist, hnone⟩ := hidle h
      refine ⟨hcontrol, hlist, ?_⟩
      cases frame with
      | none => rfl
      | some b =>
        obtain ⟨⟨b', hb', -⟩, -⟩ := hframe b rfl
        simp [hnone] at hb'
    · obtain ⟨⟨b', hb', hbody⟩, -⟩ := hframe b hb
      exact hbuilt b' hb' (hbody ▸ he)
  | retime ctrl h => exact hs.congr rfl h.state
  | listening h _ =>
    obtain ⟨hcontrol, hlist, hframe⟩ := hidle (.inl h)
    simp [State.WorkFits, State.enterListening, hcontrol, hlist, hframe]
  | active h =>
    obtain ⟨hcontrol, hlist, hframe⟩ := hidle (.inr h)
    simp [State.WorkFits, State.enterActive, hcontrol, hlist, hframe]
  | detached cause h =>
    obtain ⟨hnofarewell, hnobuilt⟩ := hs.no_farewell (by simp [h])
    exact ⟨by simp, by simp, fun h => absurd h hnofarewell, fun b hb he => absurd he (hnobuilt b hb)⟩
  | resumed h =>
    obtain ⟨hnofarewell, hnobuilt⟩ := hs.no_farewell (by simp [h])
    exact ⟨by simp, by simp, fun h => absurd h hnofarewell, fun b hb he => absurd he (hnobuilt b hb)⟩
  | leaving _ =>
    have hstation : s.enterLeaving.station = .leaving := rfl
    unfold State.WorkFits
    rw [hstation]
    exact ⟨by simp, fun h => absurd rfl h, fun _ => rfl, fun _ _ _ => rfl⟩
  | clashed h =>
    obtain ⟨hnofarewell, hnobuilt⟩ := hs.no_farewell fun e => by simp [State.takesFrames, e] at h
    refine ⟨fun h => ?_, fun _ => .inr rfl, fun h => absurd h hnofarewell, fun b hb he => ?_⟩
    · simp [State.enterClashed] at h
    · obtain ⟨b', hb', rfl⟩ := Option.map_eq_some_iff.mp hb
      have hbody : b'.frame.body = .farewell := by
        rw [← he]
        split <;> rfl
      exact absurd hbody (hnobuilt b' hb')
  | blank h _ _ => simp [State.WorkFits, h.control, h.publish, h.frame]
  | _ => exact hs

/-! ### The roster -/

/-- The roster's invariant is read of the roster, the own address and N, and of whether the station is OFFLINE. -/
theorem RosterFits.congr {s t : State} (hs : s.RosterFits) (hroster : t.roster = s.roster)
    (hstraps : t.straps = s.straps) (hn : t.n = s.n) (hstation : t.station = .offline → s.station = .offline) :
    t.RosterFits := by
  intro x
  have hpeer : t.peer x = s.peer x := State.peer_congr hroster x
  have hhas : t.hasPeer x = s.hasPeer x := by rw [State.hasPeer, State.hasPeer, hn, State.own, State.own, hstraps]
  obtain ⟨hfits, habsent⟩ := hs x
  rw [hpeer, hhas]
  exact ⟨hfits, fun h => habsent (h.imp id hstation)⟩

theorem rosterFits_empty {t : State} (h : ∀ x, t.peer x = {}) : t.RosterFits := by
  intro x
  rw [h x]
  exact ⟨by decide, fun _ => rfl⟩

theorem peer_set (s : State) (x y : Addr) (e : PeerEntry) :
    (s.roster.set x e)[y] = if y = x then e else s.peer y :=
  State.peer_setPeer s x y e

theorem Move.rosterFits {src : Option Addr} {ok : Prop} {s t : State} (h : State.Move src ok s t)
    (hs : s.RosterFits) : t.RosterFits := by
  cases h with
  | quiet h =>
    obtain ⟨hstraps, hctrl, -, -, -, -, -, -, hroster, -⟩ := h
    exact hs.congr hroster hstraps (by rw [State.n, hctrl]) (by rw [State.station, hctrl]; exact id)
  | retime ctrl h => exact hs.congr rfl rfl (by rw [State.n, h.config]) fun e => h.state.symm.trans e
  | configure config h =>
    intro x
    exact ⟨(hs x).1, fun _ => (hs x).2 (.inr h)⟩
  | listening _ _ => exact State.rosterFits_empty fun x => by simp [State.peer, State.enterListening]
  | active _ => exact hs.congr rfl rfl rfl fun e => by cases e
  | detached _ _ => exact hs.congr rfl rfl rfl fun e => by cases e
  | resumed _ => exact hs.congr rfl rfl rfl fun e => by cases e
  | leaving _ => exact hs.congr rfl rfl rfl fun e => by cases e
  | clashed _ => exact hs.congr rfl rfl rfl fun e => by cases e
  | blank h _ _ => exact State.rosterFits_empty h.roster
  | peers roster hfits _ habsent =>
    intro x
    exact ⟨hfits x (hs x).1, fun h => habsent x h ((hs x).2 h)⟩
  | gone x points rx _ hx _ _ _ =>
    intro y
    show (s.roster.set x (s.peer x).goneEntry)[y].fits = true ∧
      (s.hasPeer y = false ∨ s.station = .offline → (s.roster.set x (s.peer x).goneEntry)[y].state = .absent)
    rw [State.peer_set]
    split
    · obtain ⟨hfits, habsent⟩ := hs x
      have hmissed : (s.peer x).missed ≤ Config.countMax := by
        simp only [PeerEntry.fits, Bool.and_eq_true, decide_eq_true_eq] at hfits
        exact hfits.1
      rename_i hyx
      subst hyx
      exact ⟨by simp [PeerEntry.fits, PeerEntry.goneEntry, hmissed], fun h => absurd (habsent h) hx⟩
    · exact hs y
  | _ => exact hs

/-! ### Names -/

theorem peerKnown_iff (s : State) (x : Addr) : s.peerKnown x = true ↔ (s.peer x).known := by
  simp [State.peerKnown, PeerEntry.known]

theorem nameKnown_iff (s : State) (a : Option Addr) :
    s.nameKnown a = true ↔ ∀ x, a = some x → x = s.own ∨ (s.peer x).known := by
  cases a <;> simp [State.nameKnown, State.peerKnown_iff]

/-- The names of R2 in one clause for the table, and one for the frame being applied. -/
theorem namesKnown_iff (s : State) :
    s.NamesKnown ↔ (∀ p x, (s.pt p).names x → x = s.own ∨ (s.peer x).known) ∧
      ∀ a, s.rx.applying = some a → FrameItem.roster ∉ a.items → (s.peer a.frame.source).known := by
  unfold State.NamesKnown PointRecord.names
  simp only [State.nameKnown_iff, State.peerKnown_iff]
  refine and_congr_left fun _ => forall_congr' fun p => ?_
  constructor
  · rintro ⟨howner, hclaimant, hcontender⟩ x (h | h | h)
    · exact howner x h
    · exact hclaimant x h
    · exact hcontender x h
  · intro h
    exact ⟨fun x hx => h x (.inl hx), fun x hx => h x (.inr (.inl hx)), fun x hx => h x (.inr (.inr hx))⟩

/-- A record that has forgotten a station does not name it (R94). -/
theorem forgotten_names {r : PointRecord} {own x : Addr} (hr : r.fits own = true) (hx : x ≠ own) :
    ¬ (r.forgotten x).names x := by
  have hother (a : Option Addr) : otherClaimant a x ≠ some x := by
    unfold otherClaimant
    split <;> simp_all
  cases hs : r.state with
  | vacant =>
    obtain ⟨howner, -, hcontender, -⟩ := (PointRecord.fits_vacant hs).mp hr
    simp [PointRecord.forgotten, PointRecord.names, hs, howner, hcontender, hother]
  | claiming =>
    obtain ⟨-, howner, hclaimant, hcontender, -⟩ := (PointRecord.fits_claiming hs).mp hr
    simp [PointRecord.forgotten, PointRecord.names, hs, howner, hclaimant, hcontender, hx.symm]
  | held =>
    obtain ⟨-, howner, hclaimant, hcontender, -⟩ := (PointRecord.fits_held hs).mp hr
    simp [PointRecord.forgotten, PointRecord.names, hs, howner, hclaimant, hcontender, hx.symm]
  | mirror =>
    obtain ⟨-, -, hclaimant, hcontender, -⟩ := (PointRecord.fits_mirror hs).mp hr
    by_cases ho : r.owner = some x
    · simp [PointRecord.forgotten, PointRecord.names, hs, ho, PointRecord.vacated, hother]
    · simp [PointRecord.forgotten, PointRecord.names, hs, ho, hclaimant, hcontender]
  | stale =>
    obtain ⟨-, -, -, hcontender, -⟩ := (PointRecord.fits_stale hs).mp hr
    by_cases ho : r.owner = some x
    · simp [PointRecord.forgotten, PointRecord.names, hs, ho, PointRecord.vacated, hother]
    · simp [PointRecord.forgotten, PointRecord.names, hs, ho, hcontender, hother]
  | disputed =>
    obtain ⟨-, ⟨y, z, hy, hz, -, -, hlt⟩, hclaimant, -⟩ := (PointRecord.fits_disputed hs).mp hr
    by_cases ho : r.owner = some x
    · have hzx : z ≠ x := by
        rw [hy] at ho
        cases ho
        exact hlt.ne'
      simp [PointRecord.forgotten, PointRecord.names, hs, ho, hz, PointRecord.mirrored, hzx]
    · by_cases hc : r.contender = some x
      · simp [PointRecord.forgotten, PointRecord.names, hs, ho, hc, PointRecord.dropContender, hclaimant]
      · simp [PointRecord.forgotten, PointRecord.names, hs, ho, hc, hclaimant]

/-- All that the names rest on: the shapes of records, frames and entries, the names themselves, and that the source of the
frame whose item is taken is known. -/
structure NamesHold (src : Option Addr) (s : State) : Prop where
  records : s.RecordsFit
  reception : s.ReceptionFits
  roster : s.RosterFits
  table : ∀ p x, (s.pt p).names x → x = s.own ∨ (s.peer x).known
  applying : ∀ a, s.rx.applying = some a → FrameItem.roster ∉ a.items → (s.peer a.frame.source).known
  source : ∀ y, src = some y → (s.peer y).known

/-- The names hold on while the own address and the reception stay and no peer is lost. -/
theorem NamesHold.congr {src : Option Addr} {ok : Prop} {s t : State} (hs : s.NamesHold src) (hok : ok)
    (h : State.Move src ok s t) (hpt : ∀ p, (s.pt p).Turns src ok s.own (t.pt p)) (hown : t.own = s.own)
    (hpeer : ∀ x, (s.peer x).known → (t.peer x).known)
    (hrx : t.rx.applying = none ∨ t.rx.applying = s.rx.applying) : t.NamesHold src where
  records := h.recordsFit hok hs.records
  reception := h.receptionFits hs.reception
  roster := h.rosterFits hs.roster
  table p x hx := by
    rw [hown]
    rcases (hpt p).names x hx with h | h | h
    · exact (hs.table p x h).imp id (hpeer x)
    · exact .inr (hpeer x (hs.source x h))
    · exact .inl h
  applying a ha hitems := by
    rcases hrx with h | h
    · rw [h] at ha
      cases ha
    · exact hpeer _ (hs.applying a (h ▸ ha) hitems)
  source y hy := hpeer y (hs.source y hy)

theorem turns_setPt {src : Option Addr} {ok : Prop} {s : State} {p : PointId} {r : PointRecord}
    (hr : (s.pt p).Turns src ok s.own r) (q : PointId) : (s.pt q).Turns src ok s.own ((s.setPt p r).pt q) := by
  rw [State.pt_setPt]
  split
  · rename_i hq
    exact hq ▸ hr
  · exact .refl _

/-- In OFFLINE no peer is known (R106). -/
theorem RosterFits.unknown {s : State} (hs : s.RosterFits) (h : s.station = .offline) (x : Addr) :
    ¬ (s.peer x).known := by
  have habsent := (hs x).2 (.inr h)
  simp [PeerEntry.known, habsent]

theorem Move.namesHold {src : Option Addr} {ok : Prop} {s t : State} (h : State.Move src ok s t) (hok : ok)
    (hs : s.NamesHold src) : t.NamesHold src := by
  have hsame (p : PointId) : (s.pt p).Turns src ok s.own (s.pt p) := .refl _
  have hmove := h
  cases h with
  | quiet h =>
    obtain ⟨hstraps, -, hpoints, -, -, -, -, hrx, hroster, -⟩ := h
    exact hs.congr hok hmove (fun p => by rw [State.pt_congr hpoints]; exact hsame p) (by rw [State.own, hstraps])
      (fun x hx => by rwa [State.peer_congr hroster]) (.inr (by rw [hrx]))
  | put p r hr _ => exact hs.congr hok hmove (turns_setPt hr) rfl (fun _ => id) (.inr rfl)
  | unclaim p r _ hr _ _ _ => exact hs.congr hok hmove (turns_setPt hr) rfl (fun _ => id) (.inr rfl)
  | unhold p r _ hr _ _ _ _ => exact hs.congr hok hmove (turns_setPt hr) rfl (fun _ => id) (.inr rfl)
  | claim p r hr _ _ _ _ => exact hs.congr hok hmove (turns_setPt hr) rfl (fun _ => id) (.inr rfl)
  | win p r hr _ _ => exact hs.congr hok hmove (turns_setPt hr) rfl (fun _ => id) (.inr rfl)
  | table points hr _ => exact hs.congr hok hmove hr rfl (fun _ => id) (.inr rfl)
  | leaving _ =>
    exact hs.congr hok hmove (fun p => by rw [State.pt_enterLeaving]; exact PointRecord.stopOwnTimers_turns) rfl
      (fun _ => id) (.inl rfl)
  | clashed _ => exact hs.congr hok hmove hsame rfl (fun _ => id) (.inl rfl)
  | peers roster _ hknown _ => exact hs.congr hok hmove hsame rfl hknown (.inr rfl)
  | listening h hsrc =>
    have hrx := hs.reception.rx_empty (by simp [State.takesFrames, h])
    refine ⟨hmove.recordsFit hok hs.records, hmove.receptionFits hs.reception, hmove.rosterFits hs.roster,
      fun p x hx => ?_, fun a ha _ => ?_, fun y hy => ?_⟩
    · exact .inl ((hs.table p x hx).resolve_right (hs.roster.unknown h x))
    · have hnone : s.enterListening.rx.applying = none := by
        show s.rx.applying = none
        rw [hrx]
      rw [hnone] at ha
      cases ha
    · rw [hsrc] at hy
      cases hy
  | blank h hsrc _ =>
    refine ⟨hmove.recordsFit hok hs.records, hmove.receptionFits hs.reception, hmove.rosterFits hs.roster,
      fun p x hx => ?_, fun a ha _ => ?_, fun y hy => ?_⟩
    · rw [h.points p] at hx
      simp [PointRecord.names] at hx
    · simp [h.rx] at ha
    · rw [hsrc] at hy
      cases hy
  | gone x points rx hsrc hx hpoints _ happlying =>
    have hxown : x ≠ s.own := by
      intro e
      exact hx ((hs.roster x).2 (.inl (by simp [State.hasPeer, e])))
    have hkeep (y : Addr) (hy : y ≠ x) (hknown : (s.peer y).known) :
        (s.roster.set x (s.peer x).goneEntry)[y].known := by
      rwa [State.peer_set, if_neg hy]
    refine ⟨hmove.recordsFit hok hs.records, hmove.receptionFits hs.reception, hmove.rosterFits hs.roster,
      fun p y hy => ?_, fun a ha hitems => ?_, fun y hy => ?_⟩
    · have hpt : State.pt { s with points := points } p = (s.pt p).forgotten x := hpoints p
      change (State.pt { s with points := points } p).names y at hy
      rw [hpt] at hy
      have hyx : y ≠ x := fun e => State.forgotten_names (hs.records p) hxown (e ▸ hy)
      have hturns := PointRecord.forgotten_turns (src := none) (ok := ok) (own := s.own) (r := s.pt p) x
      rcases hturns.names y hy with h | h | h
      · exact (hs.table p y h).imp id (hkeep y hyx)
      · cases h
      · exact .inl h
    · rcases happlying with h | ⟨h, hother⟩
      · simp [h] at ha
      · have ha' := h ▸ ha
        exact hkeep _ (hother a ha' hitems) (hs.applying a ha' hitems)
    · rw [hsrc] at hy
      cases hy
  | reception rx _ hknown =>
    refine ⟨hmove.recordsFit hok hs.records, hmove.receptionFits hs.reception, hmove.rosterFits hs.roster, hs.table,
      fun a ha hitems => ?_, hs.source⟩
    rcases hknown hok a ha hitems with h | ⟨a', ha', hsource, hitems'⟩
    · exact h
    · exact hsource ▸ hs.applying a' ha' hitems'
  | _ => exact hs.congr hok hmove hsame rfl (fun _ => id) (.inr rfl)

end State
end Sys2Proof.Machine
end

section
/-! SUPPORT. Chains of moves: the operations of the table and of the Transmit Scheduler, and received items. -/

namespace Sys2Proof.Machine

/-! ### The Scheduler's lists lose entries -/

namespace Scheduler

theorem Sheds.refl (t : Scheduler) : t.Sheds t := ⟨.refl _, .refl _, rfl, fun b hb => ⟨b, hb, rfl⟩⟩

theorem Sheds.trans {t u v : Scheduler} (h : t.Sheds u) (h' : u.Sheds v) : t.Sheds v where
  control := h'.control.trans h.control
  publish := h'.publish.trans h.publish
  flying := h'.flying.trans h.flying
  body b hb := by
    obtain ⟨b', hb', hbody⟩ := h'.body b hb
    obtain ⟨b'', hb'', hbody'⟩ := h.body b' hb'
    exact ⟨b'', hb'', hbody.trans hbody'⟩

/-- The lists lose entries and the built frame stays. -/
theorem Sheds.of_lists {t u : Scheduler} (hcontrol : u.control.Sublist t.control)
    (hpublish : u.publish.Sublist t.publish) (hframe : u.frame = t.frame) : t.Sheds u :=
  ⟨hcontrol, hpublish, by simp only [Scheduler.flying, hframe], fun b hb => ⟨b, hframe ▸ hb, rfl⟩⟩

theorem remove_sheds (t : Scheduler) (r : Request) : t.Sheds (t.remove r) :=
  .of_lists List.filter_sublist (.refl _) rfl

theorem withdraw_sheds (t : Scheduler) (named : Body → Bool) : t.Sheds (t.withdraw named) where
  control := by rw [Scheduler.withdraw_control]
  publish := by rw [Scheduler.withdraw_publish]
  flying := by
    rcases t.withdraw_cases named with h | ⟨b, u, hb, -, hp, h⟩ | ⟨b, k, hb, -, hp, h⟩ <;> rw [h] <;>
      simp [Scheduler.flying, hb, hp]
  body b hb := by
    rcases t.withdraw_cases named with h | ⟨b', u, hb', -, hp, h⟩ | ⟨b', k, hb', -, hp, h⟩ <;> rw [h] at hb
    · exact ⟨b, hb, rfl⟩
    · cases hb
    · cases hb
      exact ⟨b', hb', rfl⟩

end Scheduler

theorem State.withdrawClaim_sheds (s : State) (p : PointId) : s.tx.Sheds (s.withdrawClaim p).tx := by
  unfold State.withdrawClaim
  dsimp only
  split
  · exact s.tx.remove_sheds _
  · exact s.tx.withdraw_sheds _
  all_goals exact .refl _

theorem State.leaveHeld_sheds (s : State) (p : PointId) : s.tx.Sheds (s.leaveHeld p).tx :=
  ((s.tx.remove_sheds (.assert p)).trans (Scheduler.withdraw_sheds _ (Body.isAssertOf p))).trans
    (.of_lists (.refl _) (by simp [State.leaveHeld]) rfl)

theorem State.leaveHeld_unlisted (s : State) (p : PointId) : p ∉ (s.leaveHeld p).tx.publish := by
  simp [State.leaveHeld]

/-! ### Chains -/

namespace State.Moves

variable {src : Option Addr} {ok : Prop} {s t u : State}

theorem refl (s : State) : State.Moves src ok s s := Relation.ReflTransGen.refl

theorem trans (h : State.Moves src ok s t) (h' : State.Moves src ok t u) : State.Moves src ok s u :=
  Relation.ReflTransGen.trans h h'

theorem one (h : State.Move src ok s t) : State.Moves src ok s t := Relation.ReflTransGen.single h

theorem move (h : State.Moves src ok s t) (h' : State.Move src ok t u) : State.Moves src ok s u :=
  Relation.ReflTransGen.tail h h'

theorem quiet (h : State.Moves src ok s t) (h' : t.SameCore u) : State.Moves src ok s u := h.move (.quiet h')

theorem offer (h : State.Moves src ok s t) {e : Event} : State.Moves src ok s (t.offer e) :=
  h.quiet (.refl _)

theorem offerPoint (h : State.Moves src ok s t) {p : PointId} {e : Event} :
    State.Moves src ok s (t.offerPoint p e) := by
  unfold State.offerPoint
  split
  · exact h.offer
  · exact h

theorem postCarried (h : State.Moves src ok s t) {p : PointId} {c : Carried} :
    State.Moves src ok s (t.postCarried p c) := by
  unfold State.postCarried
  split
  · exact h.offerPoint
  · exact h

theorem telling (h : State.Moves src ok s t) {p : PointId} {news : List Event} :
    State.Moves src ok s (t.telling p news) := by
  unfold State.telling
  split
  · exact h.quiet (.refl _)
  · exact h

theorem countDropped (h : State.Moves src ok s t) {kind : FrameKind} {p : Option PointId} :
    State.Moves src ok s (t.countDropped kind p) :=
  h.quiet (.refl _)

theorem put (h : State.Moves src ok s t) {p : PointId} {r : PointRecord} (hr : (t.pt p).Turns src ok t.own r)
    (hc : (t.pt p).CountsAs r) : State.Moves src ok s (t.setPt p r) :=
  h.move (.put p r hr hc)

theorem shed (h : State.Moves src ok s t) {tx : Scheduler} (htx : t.tx.Sheds tx) :
    State.Moves src ok s { t with tx := tx } :=
  h.move (.shed tx htx)

/-- A chain of visits, each of which keeps the station state. -/
theorem sweep {f : PointId → State → State} {st : StationState} (h : State.Moves src ok s t) (ht : t.station = st)
    (hf : ∀ (p : PointId) (u : State), u.station = st → (f p u).station = st ∧ State.Moves src ok u (f p u)) :
    State.Moves src ok s (t.sweep f) := by
  have hboth : (t.sweep f).station = st ∧ State.Moves src ok s (t.sweep f) :=
    State.sweep_induction (P := fun u => u.station = st ∧ State.Moves src ok s u) ⟨ht, h⟩
      fun u p hu => ⟨(hf p u hu.1).1, hu.2.trans (hf p u hu.1).2⟩
  exact hboth.2

theorem foldl {α : Type} {f : State → α → State} {l : List α} {P : State → Prop} (h : State.Moves src ok s t) (ht : P t)
    (hf : ∀ (u : State) (a : α), P u → P (f u a) ∧ State.Moves src ok u (f u a)) :
    State.Moves src ok s (l.foldl f t) := by
  induction l generalizing t with
  | nil => exact h
  | cons a l ih => exact ih (h.trans (hf t a ht).2) (hf t a ht).1

end State.Moves

namespace State

variable {src : Option Addr} {ok : Prop}

/-! ### Claims and holdings -/

/-- A claim ends, its work withdrawn (R33). -/
theorem withdrawClaim_moves {s : State} {p : PointId} {r : PointRecord} (hold : (s.pt p).state = .claiming)
    (hr : (s.pt p).Turns src ok s.own r) (hnew : r.uncounted) :
    State.Moves src ok s ((s.withdrawClaim p).setPt p r) :=
  .one (.unclaim p r _ hr hold hnew (s.withdrawClaim_sheds p))

/-- A holding ends (R45). -/
theorem leaveHeld_moves {s : State} {p : PointId} {r : PointRecord} (hold : (s.pt p).state = .held)
    (hr : (s.pt p).Turns src ok s.own r) (hnew : r.uncounted) :
    State.Moves src ok s ((s.leaveHeld p).setPt p r) :=
  .one (.unhold p r _ hr hold hnew (s.leaveHeld_sheds p) (s.leaveHeld_unlisted p))

theorem uncounted_vacate (r : PointRecord) (claimant : Option Addr) : (r.vacate claimant).uncounted := by
  simp [PointRecord.uncounted, PointRecord.vacate]

theorem uncounted_mirrorOf (r : PointRecord) (y : Addr) (length : Option Nat) (value : Option Value) :
    (r.mirrorOf y length value).uncounted := by
  simp [PointRecord.uncounted, PointRecord.mirrorOf]

theorem uncounted_of_mirrored {r : PointRecord} (h : r.state = .mirror ∨ r.state = .stale ∨ r.state = .disputed) :
    r.uncounted := by
  rcases h with h | h | h <;> simp [PointRecord.uncounted, h]

/-- A request joins the control list at its tail, when there is room (R157). -/
theorem append_moves {s : State} {r : Request} (hst : s.station = .active ∨ s.station = .detached)
    (hnew : r ∉ s.tx.control) (hroom : s.tx.control.length < 16) (hr : r ≠ .farewell) :
    State.Moves src ok s { s with tx := { s.tx with control := s.tx.control ++ [r] } } := by
  refine .one (.request _ hst (fun h => ?_) (fun _ => ?_) fun h => ?_)
  · exact List.nodup_append.mpr ⟨h, List.nodup_singleton r, by rintro a ha b hb rfl; simp_all⟩
  · simp only [List.length_append, List.length_singleton, Config.controlCapacity]
    omega
  · simpa [hr.symm] using h

theorem requestAssert_moves {s : State} (hst : s.station = .active) (p : PointId) :
    State.Moves src ok s (s.requestAssert p) := by
  rcases s.requestAssert_cases p with ⟨-, h⟩ | ⟨-, -, h⟩ | ⟨hnew, hroom, h⟩ <;> rw [h]
  · exact .refl s
  · exact (Moves.refl s).countDropped
  · exact append_moves (.inl hst) hnew hroom (by simp)

theorem requestRelease_moves {s : State} (hst : s.station = .active ∨ s.station = .detached) (p : PointId) :
    State.Moves src ok s (s.requestRelease p).1 := by
  rcases s.requestRelease_cases p with ⟨-, h⟩ | ⟨-, -, h⟩ | ⟨hnew, hroom, h⟩ <;> rw [h]
  · exact .refl s
  · exact .refl s
  · exact append_moves hst hnew hroom (by simp)

theorem appendHeld_moves {s : State} (hst : s.station = .active) (p : PointId) :
    State.Moves src ok s (s.appendHeld p) := by
  unfold State.appendHeld
  split
  · exact .one (.publish p hst ‹_›)
  · exact .refl s

theorem defend_moves {s : State} {p : PointId} (hst : s.station = .active) (hp : (s.pt p).state = .held) :
    State.Moves src ok s (s.defend p) :=
  (requestAssert_moves hst p).move
    (.publish p (by simpa [State.station] using hst) (by rwa [State.pt_requestAssert]))

/-! ### A station acts as holder -/

section
variable {s : State} {p : PointId} {y : Addr} {c : Carried} (hy : src = some y) (hfits : ok → y ≠ s.own ∧ c.fits)
include hy hfits

theorem mirrorCarried_turns :
    (s.pt p).Turns src ok s.own ((s.pt p).mirrorOf y (some c.length) c.value) :=
  PointRecord.mirrorOf_turns (.inr hy) fun hok _ => hfits hok

theorem newOwner_moves (hp : (s.pt p).uncounted) (old : Option Addr) : State.Moves src ok s (s.newOwner p old y c) :=
  ((Moves.refl s).put (mirrorCarried_turns hy hfits) (.of_uncounted hp (uncounted_mirrorOf ..))).offerPoint.postCarried

theorem loseClaimTo_moves (hp : (s.pt p).state = .claiming) (cause : ClaimLoss) :
    State.Moves src ok s (s.loseClaimTo p y c cause) :=
  (withdrawClaim_moves hp (mirrorCarried_turns hy hfits) (uncounted_mirrorOf ..)).offer.postCarried

theorem yield_moves (hp : (s.pt p).state = .held) (cause : OwnershipLoss) :
    State.Moves src ok s (s.yield p y c cause) :=
  (leaveHeld_moves hp (mirrorCarried_turns hy hfits) (uncounted_mirrorOf ..)).offer.postCarried

theorem challenge_moves (hp : (s.pt p).state = .held) : State.Moves src ok s (s.challenge p y c) := by
  unfold State.challenge
  split
  · split
    · exact yield_moves hy hfits hp _
    · exact defend_moves ‹_› hp
  · exact yield_moves hy hfits hp _
  all_goals exact .refl s

theorem contest_moves {x : Addr} (hp : (s.pt p).state = .mirror ∨ (s.pt p).state = .stale ∨ (s.pt p).state = .disputed)
    (hx : (s.pt p).owner = some x) (hne : x ≠ y) : State.Moves src ok s (s.contest p x y c) := by
  have hnew : ((s.pt p).contested x y c).uncounted := by
    unfold PointRecord.contested
    split <;> simp [PointRecord.uncounted]
  have hput : State.Moves src ok s (s.setPt p ((s.pt p).contested x y c)) :=
    (Moves.refl s).put (PointRecord.contested_turns hp hx hne hy hfits) (.of_uncounted (uncounted_of_mirrored hp) hnew)
  unfold State.contest
  dsimp only
  split
  · exact hput.offerPoint.offerPoint.postCarried
  · exact hput.offerPoint

/-- A PUBLISH record or an ASSERT (R14, R62, R79 to R88). -/
theorem holderActs_moves {fromOwner : State → State} (loss : ClaimLoss)
    (howner : (s.pt p).state = .mirror ∨ (s.pt p).state = .stale ∨ (s.pt p).state = .disputed →
      State.Moves src ok s (fromOwner s)) : State.Moves src ok s (s.holderActs p y c loss fromOwner) := by
  have howned (hp : (s.pt p).state = .mirror ∨ (s.pt p).state = .stale ∨ (s.pt p).state = .disputed) :
      State.Moves src ok s (match (s.pt p).owner with
        | none => s
        | some x =>
            if x = y then fromOwner s
            else if (s.pt p).state = .stale ∧ (s.pt p).claimant = some y then s.newOwner p (some x) y c
            else if (s.pt p).state = .disputed ∧ (s.pt p).contender = some y then
              s.setPt p { s.pt p with contenderTimer := some 0 }
            else s.contest p x y c) := by
    split
    · exact .refl s
    · split_ifs with hxy hstale hdisputed
      · exact howner hp
      · exact newOwner_moves hy hfits (uncounted_of_mirrored hp) _
      · exact (Moves.refl s).put (PointRecord.contenderTimer_turns hdisputed.1) (.of_state rfl)
      · exact contest_moves hy hfits hp ‹_› hxy
  unfold State.holderActs
  dsimp only
  split
  · rename_i hp
    exact newOwner_moves hy hfits (by simp [PointRecord.uncounted, hp]) _
  · exact loseClaimTo_moves hy hfits ‹_› _
  · exact challenge_moves hy hfits ‹_›
  · rename_i hp
    exact howned (.inl hp)
  · rename_i hp
    exact howned (.inr (.inl hp))
  · rename_i hp
    exact howned (.inr (.inr hp))

end

theorem refreshed_countsAs {r r' : PointRecord} (h : r.state = .mirror ∨ r.state = .stale ∨ r.state = .disputed)
    (h' : r'.state = r.refreshed.state) : r.CountsAs r' := by
  rcases h with h | h | h <;> simp [PointRecord.CountsAs, PointRecord.refreshed, h, h']

/-- A PUBLISH record of the owner (R64 to R66). -/
theorem ownerPublishes_moves {s : State} {p : PointId} {k : Nat} {v : Value}
    (hp : (s.pt p).state = .mirror ∨ (s.pt p).state = .stale ∨ (s.pt p).state = .disputed)
    (hfits : ok → valueFitsLength (some k) (some v)) : State.Moves src ok s (s.ownerPublishes p k v) := by
  have haccept : State.Moves src ok s
      ((s.setPt p { (s.pt p).refreshed with length := some k, value := some v }).offerPoint p
        (.pointChanged p v.generation)) :=
    ((Moves.refl s).put (PointRecord.refreshed_turns hp rfl fun hok _ => hfits hok)
      (refreshed_countsAs hp rfl)).offerPoint
  unfold State.ownerPublishes
  dsimp only
  split
  · exact (Moves.refl s).quiet (.refl _)
  · split
    · exact haccept
    · split
      · exact haccept
      · split
        · rename_i hv _ _
          refine (Moves.refl s).put ?_ (refreshed_countsAs hp rfl)
          exact PointRecord.refreshed_turns (length := (s.pt p).length) (value := (s.pt p).value) hp (by simp [hv])
            fun _ hr => by
              obtain ⟨-, -, -, -, -, hvalue⟩ := PointRecord.fits_mirrored hp hr
              exact hvalue
        · exact (Moves.refl s).quiet (.refl _)

theorem ownerAsserts_moves {s : State} {p : PointId} {k : Nat}
    (hp : (s.pt p).state = .mirror ∨ (s.pt p).state = .stale ∨ (s.pt p).state = .disputed)
    (hfits : ok → 1 ≤ k ∧ k ≤ Config.valueMax) : State.Moves src ok s (s.ownerAsserts p k) := by
  unfold State.ownerAsserts
  dsimp only
  split
  · rename_i h
    exact (Moves.refl s).put (PointRecord.setLength_turns hp (by simpa using h) hfits) (.of_state rfl)
  · exact .refl s

/-! ### The items of a received frame at the table -/

section
variable {s : State} {y : Addr} (hy : src = some y) (hown : ok → y ≠ s.own)
include hy hown

theorem publishRecord_moves {r : PublishRecord} (hr : ok → r.wf = true) :
    State.Moves src ok s (s.publishRecord y r) := by
  have hfits (hok : ok) : valueFitsLength (some r.octets.length)
      (some { octets := r.octets, generation := r.generation }) := by
    have hwf := r.wf_iff.mp (hr hok)
    refine ⟨fun k hk => ?_, fun v hv => ?_⟩
    · cases hk
      exact hwf
    · cases hv
      rfl
  unfold State.publishRecord
  refine holderActs_moves hy (fun hok => ⟨hown hok, ?_⟩) _ fun hp => ownerPublishes_moves hp hfits
  exact hfits hok

theorem assertHeard_moves (p : PointId) (length : Octet) : State.Moves src ok s (s.assertHeard y p length) := by
  unfold State.assertHeard
  split
  · rename_i hlength
    have hfits : valueFitsLength (some length.toNat) none :=
      ⟨fun k hk => by cases hk; exact hlength, fun v hv => by cases hv⟩
    exact holderActs_moves (c := { length := length.toNat, value := none }) hy (fun hok => ⟨hown hok, hfits⟩) _
      fun hp => ownerAsserts_moves hp fun _ => hlength
  · exact (Moves.refl s).quiet (.refl _)

theorem vacate_source_turns (p : PointId) : (s.pt p).Turns src ok s.own ((s.pt p).vacate (some y)) :=
  PointRecord.vacate_turns (fun hok _ => by simpa using hown hok) fun x hx => by
    cases hx
    exact .inr hy

theorem lowerClaimant_turns {p : PointId} (h : (s.pt p).state = .vacant ∨ (s.pt p).state = .stale) :
    (s.pt p).Turns src ok s.own { s.pt p with claimant := lowerClaimant (s.pt p).claimant y } := by
  have hlower (x : Addr) (hx : lowerClaimant (s.pt p).claimant y = some x) : (s.pt p).claimant = some x ∨ y = x := by
    cases hc : (s.pt p).claimant with
    | none =>
      rw [hc] at hx
      exact .inr (by simpa [lowerClaimant] using hx)
    | some d =>
      rw [hc, lowerClaimant_some, Option.some.injEq] at hx
      rcases min_choice y d with h | h
      · exact .inr (h.symm.trans hx)
      · exact .inl (congrArg some (h.symm.trans hx))
  refine PointRecord.claimant_turns h (fun hok hr he => ?_) fun x hx => ?_
  · rcases hlower s.own he with hc | hc
    · rcases h with h | h
      · obtain ⟨-, hclaimant, -⟩ := (PointRecord.fits_vacant h).mp hr
        exact hclaimant hc
      · obtain ⟨-, -, hclaimant, -⟩ := (PointRecord.fits_stale h).mp hr
        exact hclaimant hc
    · exact hown hok hc
  · rcases hlower x hx with hc | hc
    · exact .inl (.inr (.inl hc))
    · exact .inr (hc ▸ hy)

theorem claimHeard_moves (p : PointId) : State.Moves src ok s (s.claimHeard y p) := by
  have hleaves (h : (s.pt p).uncounted) : State.Moves src ok s (s.ownerLeaves p y (some y)) :=
    ((Moves.refl s).put (vacate_source_turns hy hown p) (.of_uncounted h (uncounted_vacate ..))).offerPoint
  unfold State.claimHeard
  dsimp only
  split
  · rename_i hp
    exact (Moves.refl s).put (lowerClaimant_turns hy hown (.inl hp)) (.of_state rfl)
  · split
    · exact (withdrawClaim_moves ‹_› (vacate_source_turns hy hown p) (uncounted_vacate ..)).offer
    · exact .refl s
  · split
    · exact defend_moves ‹_› ‹_›
    · exact (leaveHeld_moves ‹_› (vacate_source_turns hy hown p) (uncounted_vacate ..)).offer
    all_goals exact .refl s
  · rename_i hp
    split
    · exact hleaves (uncounted_of_mirrored (.inl hp))
    · exact .refl s
  · rename_i hp
    split
    · exact hleaves (uncounted_of_mirrored (.inr (.inl hp)))
    · exact (Moves.refl s).put (lowerClaimant_turns hy hown (.inr hp)) (.of_state rfl)
  · rename_i hp
    split
    · exact hleaves (uncounted_of_mirrored (.inr (.inr hp)))
    · split
      · exact (Moves.refl s).put (PointRecord.contenderTimer_turns hp) (.of_state rfl)
      · exact .refl s

end

/-- The claimant that a record keeps is one it had (R50, R94). -/
theorem otherClaimant_names {a : Option Addr} {x y : Addr} (h : otherClaimant a x = some y) : a = some y := by
  unfold otherClaimant at h
  split at h
  · cases h
  · exact h

theorem dropContender_moves {s : State} {p : PointId} (hp : (s.pt p).state = .disputed) :
    State.Moves src ok s (s.dropContender p) :=
  (Moves.refl s).put (PointRecord.dropContender_turns hp)
    (.of_uncounted (uncounted_of_mirrored (.inr (.inr hp))) (by simp [PointRecord.uncounted, PointRecord.dropContender]))

theorem goStale_moves {s : State} {p : PointId} (hp : (s.pt p).state = .mirror ∨ (s.pt p).state = .disputed) (x : Addr) :
    State.Moves src ok s (s.goStale p x) :=
  ((Moves.refl s).put (PointRecord.toStale_turns hp)
    (.of_uncounted (uncounted_of_mirrored (hp.imp id .inr))
      (by simp [PointRecord.uncounted, PointRecord.toStale]))).offerPoint

theorem promote_moves {s : State} {p : PointId} (hp : (s.pt p).state = .disputed) (x : Addr) :
    State.Moves src ok s (s.promote p x) := by
  unfold State.promote
  dsimp only
  split
  · exact .refl s
  · rename_i y hy
    refine ((Moves.refl s).put (PointRecord.mirrorOf_turns (.inl (.inr (.inr hy))) fun _ hr => ?_)
      (.of_uncounted (uncounted_of_mirrored (.inr (.inr hp))) (uncounted_mirrorOf ..))).offerPoint
    obtain ⟨-, ⟨_, y', -, hy', -, hown, -⟩, -⟩ := (PointRecord.fits_disputed hp).mp hr
    rw [hy] at hy'
    cases hy'
    exact ⟨hown, by simp [valueFitsLength]⟩

/-- A RELEASE (R50, R51). -/
theorem releaseHeard_moves (s : State) (x : Addr) (p : PointId) : State.Moves src ok s (s.releaseHeard x p) := by
  have hleaves (hp : (s.pt p).state = .mirror ∨ (s.pt p).state = .stale ∨ (s.pt p).state = .disputed) :
      State.Moves src ok s (s.ownerLeaves p x (otherClaimant (s.pt p).claimant x)) :=
    ((Moves.refl s).put
      (PointRecord.vacate_turns
        (fun _ hr he => (PointRecord.fits_mirrored hp hr).1 (otherClaimant_names he))
        fun y hy => .inl (.inr (.inl (otherClaimant_names hy))))
      (.of_uncounted (uncounted_of_mirrored hp) (uncounted_vacate ..))).offerPoint
  have hclears (hp : (s.pt p).state = .vacant ∨ (s.pt p).state = .stale) :
      State.Moves src ok s (s.setPt p { s.pt p with claimant := none }) :=
    (Moves.refl s).put (PointRecord.claimant_turns hp (fun _ _ => by simp) fun y hy => by cases hy) (.of_state rfl)
  unfold State.releaseHeard
  dsimp only
  split
  · rename_i hp
    split
    · exact hleaves (.inl hp)
    · exact .refl s
  · rename_i hp
    split
    · exact hleaves (.inr (.inl hp))
    · split
      · exact hclears (.inr hp)
      · exact .refl s
  · rename_i hp
    split
    · exact hclears (.inl hp)
    · exact .refl s
  · rename_i hp
    split
    · exact promote_moves hp x
    · split
      · exact dropContender_moves hp
      · exact .refl s
  all_goals exact .refl s

theorem appendHeld_station (s : State) (p : PointId) : (s.appendHeld p).station = s.station := by
  rw [State.station, State.appendHeld_ctrl]

theorem recallHeard_moves (s : State) (points : List PointId) : State.Moves src ok s (s.recallHeard points) := by
  unfold State.recallHeard
  split
  · rename_i hst
    exact (Moves.refl s).foldl (P := fun u => u.station = .active) hst fun u p hu =>
      ⟨(appendHeld_station u p).trans hu, appendHeld_moves hu p⟩
  · exact .refl s

end State
end Sys2Proof.Machine
end

section
/-! SUPPORT. Chains of moves: the roster, the frame being applied, the station's own frames, and the line. -/

namespace Sys2Proof.Machine

namespace State

variable {src : Option Addr} {ok : Prop}

/-! ### The roster -/

/-- A sweep of visits is a chain of moves when each visit makes its record turn and counts it as before. -/
theorem sweep_visit_moves {change : PointRecord → PointRecord} {news : PointId → PointRecord → List Event}
    (hturns : ∀ own r, PointRecord.Turns src ok own r (change r)) (hcounts : ∀ r, PointRecord.CountsAs r (change r))
    (s : State) : State.Moves src ok s (s.sweep (State.visit change news)) :=
  State.sweep_induction (P := State.Moves src ok s) (.refl s)
    fun t p ht => (ht.put (hturns t.own (t.pt p)) (hcounts _)).telling

theorem sweep_markDown_moves (x : Addr) (s : State) : State.Moves src ok s (s.sweep (State.markDown x)) := by
  rw [State.markDown_eq_visit]
  exact sweep_visit_moves (fun _ _ => PointRecord.markedDown_turns x) (fun _ => PointRecord.markedDown_countsAs x) s

theorem sweep_restarted_moves (x : Addr) (s : State) : State.Moves src ok s (s.sweep (State.restarted x)) := by
  rw [State.restarted_eq_visit]
  exact sweep_visit_moves (fun _ _ => PointRecord.afterRestart_turns x) (fun _ => PointRecord.afterRestart_countsAs x) s

/-- One entry changes. -/
theorem setPeer_moves {s : State} {x : Addr} {e : PeerEntry} (hfits : (s.peer x).fits = true → e.fits = true)
    (hknown : (s.peer x).known → e.known)
    (habsent : s.hasPeer x = false ∨ s.station = .offline → (s.peer x).state = .absent → e.state = .absent) :
    State.Moves src ok s (s.setPeer x e) := by
  refine .one (.peers _ (fun y => ?_) (fun y => ?_) fun y => ?_) <;> rw [State.peer_set] <;> split
  · rename_i hy
    exact hy ▸ hfits
  · exact id
  · rename_i hy
    exact hy ▸ hknown
  · exact id
  · rename_i hy
    exact hy ▸ habsent
  · exact fun _ => id

/-- The entry of a known peer takes new fields in its state (R121). -/
theorem setPeer_moves_of_known {s : State} {x : Addr} {e : PeerEntry} (hx : (s.peer x).known)
    (hstate : e.state = (s.peer x).state) (hmissed : e.missed = (s.peer x).missed)
    (hlastSeq : e.lastSeq = (s.peer x).lastSeq) (hsilence : e.silence = (s.peer x).silence) :
    State.Moves src ok s (s.setPeer x e) := by
  refine setPeer_moves (fun h => ?_) (fun h => ?_) fun _ h => hstate.trans h
  · unfold PeerEntry.fits at *
    rw [hstate, hmissed, hlastSeq, hsilence]
    rcases hx with hx | hx <;> rw [hx] at h ⊢ <;> exact h
  · unfold PeerEntry.known at *
    rwa [hstate]

theorem heard_state (e : PeerEntry) (seq : Octet) : (e.heard seq).state = .present := by
  unfold PeerEntry.heard
  split <;> rfl

theorem heardFrom_moves {s : State} {x : Addr} (hx : s.hasPeer x = true) (hst : s.station ≠ .offline) (seq : Octet) :
    State.Moves src ok s (s.heardFrom x seq) := by
  have hheard : State.Moves src ok s (s.setPeer x ((s.peer x).heard seq)) := by
    refine setPeer_moves (fun h => ?_) (fun _ => .inl (heard_state _ seq)) fun h => ?_
    · have hmissed : (s.peer x).missed ≤ Config.countMax := by
        simp only [PeerEntry.fits, Bool.and_eq_true, decide_eq_true_eq] at h
        exact h.1
      have hafter : (s.peer x).missedAfter seq ≤ Config.countMax := by
        unfold PeerEntry.missedAfter
        split
        · exact min_le_right _ _
        · exact hmissed
      unfold PeerEntry.heard
      split <;> simp [PeerEntry.fits, hmissed, hafter]
    · rcases h with h | h
      · simp [hx] at h
      · exact absurd h hst
  rw [State.heardFrom_eq]
  exact hheard.quiet (.refl _)

theorem takeFresh_moves (s : State) (x : Addr) (fresh : Bool) : State.Moves src ok s (s.takeFresh x fresh) := by
  unfold State.takeFresh
  split
  · exact (Moves.refl s).offer.trans (sweep_restarted_moves x _)
  · exact .refl s

theorem takeDetached_moves {s : State} {x : Addr} (hx : (s.peer x).known) (st : PresenceState) :
    State.Moves src ok s (s.takeDetached x st) := by
  have hflag (flag : Bool) : State.Moves src ok s (s.setPeer x { s.peer x with detached := flag }) :=
    setPeer_moves_of_known hx rfl rfl rfl rfl
  unfold State.takeDetached
  dsimp only
  split
  · exact (hflag true).offer.trans (sweep_markDown_moves x _)
  · exact (hflag false).offer
  all_goals exact .refl s

theorem takeAnnounced_moves {s : State} {x : Addr} (hx : (s.peer x).known) (a : Announced) :
    State.Moves src ok s (s.takeAnnounced x a) := by
  have hset (differs : Bool) :
      State.Moves src ok s (s.setPeer x { s.peer x with announced := some a, mismatch := differs }) :=
    setPeer_moves_of_known hx rfl rfl rfl rfl
  unfold State.takeAnnounced
  dsimp only
  split
  · exact (hset _).offer
  · exact hset _

/-- A sweep that forgets a station changes records and events alone. -/
theorem peerGone_core (s : State) (x : Addr) (cause : GoneCause) :
    (State.SameCore { s with
      points := (s.peerGone x cause).points, roster := s.roster.set x (s.peer x).goneEntry } (s.peerGone x cause)) ∧
    ∀ p, (s.peerGone x cause).pt p = (s.pt p).forgotten x := by
  have hsweep := State.sweep_visit (news := goneNews x) (PointRecord.forgotten_subscribed x)
    ((s.setPeer x (s.peer x).goneEntry).offer (.peerGone x cause))
  rw [← State.forget_eq_visit] at hsweep
  obtain ⟨hframe, hpt, -⟩ := hsweep
  have hgone : s.peerGone x cause =
      State.sweep (State.forget x) ((s.setPeer x (s.peer x).goneEntry).offer (.peerGone x cause)) := rfl
  rw [← hgone] at hframe hpt
  clear hgone
  generalize s.peerGone x cause = t at hframe hpt ⊢
  refine ⟨?_, fun p => (hpt p).trans (by simp)⟩
  rw [hframe]
  exact (.refl _)

/-- A peer is GONE; `rx` is what remains of the frame being applied (R94, R126, R143). -/
theorem peerGone_moves {s : State} {x : Addr} (hx : (s.peer x).state ≠ .absent) (cause : GoneCause) {rx : Receiver}
    (hfifo : rx.fifo = s.rx.fifo)
    (happlying : rx.applying = none ∨ (rx.applying = s.rx.applying ∧
      ∀ a, s.rx.applying = some a → FrameItem.roster ∉ a.items → a.frame.source ≠ x)) :
    State.Moves none ok s { s.peerGone x cause with rx := rx } := by
  obtain ⟨⟨hstraps, hctrl, -, hheld, hclaiming, htx, hline, -, hroster, hpending⟩, hpt⟩ := peerGone_core s x cause
  generalize s.peerGone x cause = t at *
  have hgone := State.Move.gone (src := none) (ok := ok) (s := s) x t.points rx rfl hx hpt hfifo
    happlying
  exact (Moves.one hgone).quiet ⟨hstraps, hctrl, rfl, hheld, hclaiming, htx, hline, rfl, hroster, hpending⟩

theorem peerGone_rx (s : State) (x : Addr) (cause : GoneCause) : (s.peerGone x cause).rx = s.rx := by
  obtain ⟨⟨-, -, -, -, -, -, -, hrx, -⟩, -⟩ := peerGone_core s x cause
  exact hrx

/-! ### The roster item of the frame being applied -/

theorem heardFrom_peer (s : State) (x : Addr) (seq : Octet) : ((s.heardFrom x seq).peer x).state = .present := by
  rw [State.heardFrom_eq]
  show ((s.setPeer x ((s.peer x).heard seq)).peer x).state = .present
  rw [State.peer_setPeer_same]
  exact heard_state _ seq

theorem rosterItem_moves {s : State} {f : Frame} (hst : s.station ≠ .offline)
    (hroster : ∀ a, s.rx.applying = some a → FrameItem.roster ∈ a.items) :
    State.Moves none ok s (s.rosterItem f) := by
  unfold State.rosterItem
  split
  · rename_i hp
    have hheard : State.Moves none ok s (s.heardFrom f.source f.sequence) := heardFrom_moves hp hst f.sequence
    have hstate := s.heardFrom_peer f.source f.sequence
    have hrx : (s.heardFrom f.source f.sequence).rx = s.rx := by
      rw [State.heardFrom_eq]
      rfl
    dsimp only
    split
    · rename_i st fresh held n pUnits _
      have hfresh : (((s.heardFrom f.source f.sequence).takeFresh f.source fresh).peer f.source).known := by
        rw [State.peer_congr (State.takeFresh_roster ..)]
        exact .inl hstate
      have hdetached :
          ((((s.heardFrom f.source f.sequence).takeFresh f.source fresh).takeDetached f.source st).peer
            f.source).known := by
        rw [State.takeDetached_peer]
        exact hfresh
      exact ((hheard.trans (takeFresh_moves ..)).trans (takeDetached_moves hfresh st)).trans
        (takeAnnounced_moves hdetached _)
    · have hgone := peerGone_moves (ok := ok) (s := s.heardFrom f.source f.sequence) (x := f.source)
        (by simp [hstate]) .farewell (rx := (s.heardFrom f.source f.sequence).rx) rfl
        (.inr ⟨rfl, fun a ha hitems => absurd (hroster a (hrx ▸ ha)) hitems⟩)
      have hsame : { (s.heardFrom f.source f.sequence).peerGone f.source .farewell with
          rx := (s.heardFrom f.source f.sequence).rx } =
          (s.heardFrom f.source f.sequence).peerGone f.source .farewell := by
        rw [← State.peerGone_rx _ f.source .farewell]
      exact hheard.trans (hsame ▸ hgone)
    all_goals exact hheard
  · exact .refl s

/-- After its roster item the source of any frame but a FAREWELL is known. -/
theorem rosterItem_known {s : State} {f : Frame} (hp : s.hasPeer f.source = true) (hf : f.body ≠ .farewell) :
    ((s.rosterItem f).peer f.source).known := by
  have hstate := s.heardFrom_peer f.source f.sequence
  unfold State.rosterItem
  rw [if_pos hp]
  dsimp only
  split
  · rw [State.takeAnnounced_eq]
    show ((State.setPeer _ _ _).peer _).known
    rw [State.peer_setPeer_same, State.takeDetached_peer, State.peer_congr (State.takeFresh_roster ..)]
    exact .inl hstate
  · exact absurd ‹_› hf
  all_goals exact .inl hstate

/-! ### Reception does not touch the roster item -/

/-- The Receive FIFO and the Frame Processor replaced. -/
def withRx (rx : Receiver) (s : State) : State := { s with rx := rx }

theorem visit_withRx (change : PointRecord → PointRecord) (news : PointId → PointRecord → List Event) (p : PointId)
    (rx : Receiver) (s : State) : State.visit change news p (s.withRx rx) = (State.visit change news p s).withRx rx := by
  unfold State.visit
  by_cases h : ((s.setPt p (change (s.pt p))).pt p).subscribed = true
  · rw [State.telling_subscribed h, State.telling_subscribed (by exact h)]
    rfl
  · rw [State.telling_unsubscribed h, State.telling_unsubscribed (by exact h)]
    rfl

theorem sweep_withRx {f : PointId → State → State} {rx : Receiver}
    (hf : ∀ p s, f p (State.withRx rx s) = (f p s).withRx rx) (s : State) :
    (s.withRx rx).sweep f = (s.sweep f).withRx rx :=
  List.foldl_hom (State.withRx rx) (g₁ := fun t p => f p t) (g₂ := fun t p => f p t) (fun t p => hf p t)

theorem takeFresh_withRx (rx : Receiver) (s : State) (x : Addr) (fresh : Bool) :
    (s.withRx rx).takeFresh x fresh = (s.takeFresh x fresh).withRx rx := by
  rw [State.takeFresh_eq, State.takeFresh_eq]
  split
  · rw [State.restarted_eq_visit, ← sweep_withRx (visit_withRx _ _ · rx ·)]
    rfl
  · rfl

theorem takeDetached_withRx (rx : Receiver) (s : State) (x : Addr) (st : PresenceState) :
    (s.withRx rx).takeDetached x st = (s.takeDetached x st).withRx rx := by
  rw [State.takeDetached_eq, State.takeDetached_eq]
  have hpeer : (s.withRx rx).peer x = s.peer x := rfl
  rw [hpeer]
  split_ifs
  · rw [State.markDown_eq_visit, ← sweep_withRx (visit_withRx _ _ · rx ·)]
    rfl
  · rfl
  · rfl

theorem heardFrom_withRx (rx : Receiver) (s : State) (x : Addr) (seq : Octet) :
    (s.withRx rx).heardFrom x seq = (s.heardFrom x seq).withRx rx := by
  rw [State.heardFrom_eq, State.heardFrom_eq]
  rfl

theorem takeAnnounced_withRx (rx : Receiver) (s : State) (x : Addr) (a : Announced) :
    (s.withRx rx).takeAnnounced x a = (s.takeAnnounced x a).withRx rx := by
  rw [State.takeAnnounced_eq, State.takeAnnounced_eq]
  rfl

theorem peerGone_withRx (rx : Receiver) (s : State) (x : Addr) (cause : GoneCause) :
    (s.withRx rx).peerGone x cause = (s.peerGone x cause).withRx rx := by
  rw [State.peerGone_eq, State.peerGone_eq, State.forget_eq_visit, ← sweep_withRx (visit_withRx _ _ · rx ·)]
  rfl

/-- The roster item is the same whatever waits in reception. -/
theorem rosterItem_withRx (rx : Receiver) (s : State) (f : Frame) :
    (s.withRx rx).rosterItem f = (s.rosterItem f).withRx rx := by
  by_cases hp : s.hasPeer f.source = true
  · by_cases hpresence : f.body.kind = .presence
    · cases hb : f.body <;> rw [hb] at hpresence <;> cases hpresence
      rw [State.rosterItem_presence hp hb, State.rosterItem_presence (s := s.withRx rx) hp hb, heardFrom_withRx,
        takeFresh_withRx, takeDetached_withRx, takeAnnounced_withRx]
    · by_cases hfarewell : f.body.kind = .farewell
      · cases hb : f.body <;> rw [hb] at hfarewell <;> cases hfarewell
        rw [State.rosterItem_farewell hp hb, State.rosterItem_farewell (s := s.withRx rx) hp hb, heardFrom_withRx,
          peerGone_withRx]
      · rw [State.rosterItem_other hp hpresence hfarewell,
          State.rosterItem_other (s := s.withRx rx) hp hpresence hfarewell, heardFrom_withRx]
  · unfold State.rosterItem
    rw [if_neg hp, if_neg (by exact hp)]

theorem rosterItem_rx (s : State) (f : Frame) : (s.rosterItem f).rx = s.rx := by
  have hsame : s.rosterItem f = (s.rosterItem f).withRx s.rx := rosterItem_withRx s.rx s f
  rw [hsame]
  rfl

/-! ### One item of the frame being applied -/

/-- `src` is the source of the frame whose body items are being taken (R142). -/
def Hears (s : State) (src : Option Addr) : Prop :=
  ∀ y, src = some y → s.ReceptionFits →
    ∃ a, s.rx.applying = some a ∧ a.frame.source = y ∧ FrameItem.roster ∉ a.items

/-- The part goes from `s` to `t` by moves, those of a received frame's item among them. -/
def Steps (s t : State) : Prop := ∃ src, s.Hears src ∧ State.Moves src s.ReceptionFits s t

theorem Steps.of_moves {s t : State} (h : State.Moves none s.ReceptionFits s t) : s.Steps t := by
  refine ⟨none, fun y hy => ?_, h⟩
  cases hy

/-- An item of a frame is its first, the roster item, or one that the table takes (R142). -/
theorem frame_items_eq (own : Addr) (f : Frame) :
    ∃ rest, f.items own = .roster :: rest ∧ FrameItem.roster ∉ rest := by
  unfold Frame.items
  split
  case h_7 => split <;> exact ⟨_, rfl, by simp⟩
  all_goals exact ⟨_, rfl, by simp⟩

section
variable {s : State} {a : Applying} {item : FrameItem} {rest : List FrameItem} (ha : s.rx.applying = some a)
  (hitems : a.items = item :: rest)
include ha hitems

/-- The items left after one has been taken are items of the frame still. -/
theorem itemsLeft_receptionFits (hs : s.ReceptionFits) : (s.itemsLeft a rest).ReceptionFits := by
  obtain ⟨hwaiting, hcurrent, hnone⟩ := hs
  obtain ⟨hfits, -, hsuffix⟩ := hcurrent a ha
  refine ⟨hwaiting, fun b hb => ?_, fun htakes => ?_⟩
  · simp only [State.itemsLeft] at hb
    split at hb
    · cases hb
    · rename_i hrest
      cases hb
      exact ⟨hfits, hrest, ((List.suffix_cons item rest).trans (hitems ▸ hsuffix))⟩
  · obtain ⟨-, happlying⟩ := hnone htakes
    simp [ha] at happlying

/-- Where the next item is not the roster item, it has been taken already. -/
theorem roster_taken (hs : s.ReceptionFits) (hitem : item ≠ .roster) : FrameItem.roster ∉ a.items := by
  obtain ⟨-, hcurrent, -⟩ := hs
  obtain ⟨-, -, hsuffix⟩ := hcurrent a ha
  obtain ⟨body, hbody, hno⟩ := frame_items_eq s.own a.frame
  rw [hbody, List.suffix_cons_iff] at hsuffix
  rcases hsuffix with h | h
  · rw [hitems] at h
    cases h
    exact absurd rfl hitem
  · exact fun hm => hno (h.subset hm)

/-- The next item is taken from the frame being applied, and its source is another station. -/
theorem next_item (hs : s.ReceptionFits) :
    s.frameFits a.frame = true ∧ item ∈ a.frame.items s.own := by
  obtain ⟨-, hcurrent, -⟩ := hs
  obtain ⟨hfits, -, hsuffix⟩ := hcurrent a ha
  exact ⟨hfits, hsuffix.subset (by rw [hitems]; exact List.mem_cons_self ..)⟩

/-- A body item is taken: the frame's source is the source of the moves. -/
theorem bodyItem_steps (hitem : item ≠ .roster) {effect : State → State}
    (heffect : ∀ t, t.straps = s.straps → State.Moves (some a.frame.source) s.ReceptionFits t (effect t)) :
    s.Steps (effect (s.itemsLeft a rest)) := by
  refine ⟨some a.frame.source, fun y hy hs => ?_, .trans (.one (.reception _ (fun hs => ?_) fun _ b hb hno => ?_))
    (heffect _ rfl)⟩
  · cases hy
    exact ⟨a, ha, rfl, roster_taken ha hitems hs hitem⟩
  · exact itemsLeft_receptionFits ha hitems hs
  · dsimp only at hb
    split at hb
    · cases hb
    · cases hb
      exact .inr ⟨a, ha, rfl, by rw [hitems]; simpa [hitem.symm] using hno⟩

/-- The roster item is taken. -/
theorem rosterItem_steps (hitem : item = .roster) (htakes : s.takesFrames = true) :
    s.Steps ((s.itemsLeft a rest).rosterItem a.frame) := by
  subst hitem
  have hst : s.station ≠ .offline := fun e => by simp [State.takesFrames, e] at htakes
  have hmoves : State.Moves none s.ReceptionFits s (s.rosterItem a.frame) :=
    rosterItem_moves hst fun b hb => by
      rw [ha] at hb
      cases hb
      rw [hitems]
      exact List.mem_cons_self ..
  have hrx := s.rosterItem_rx a.frame
  have hcommute : (s.itemsLeft a rest).rosterItem a.frame = (s.rosterItem a.frame).itemsLeft a rest := by
    rw [State.itemsLeft, State.itemsLeft, hrx]
    exact rosterItem_withRx _ s a.frame
  rw [hcommute]
  refine Steps.of_moves (hmoves.move (.reception _ (fun hs => ?_) fun hs b hb _ => .inl ?_))
  · exact itemsLeft_receptionFits (hrx ▸ ha) hitems hs
  · dsimp only at hb
    split at hb
    · cases hb
    · rename_i hrest
      cases hb
      obtain ⟨hfits, -⟩ := next_item ha hitems hs
      simp only [State.frameFits, Bool.and_eq_true, Frame.wf_iff, decide_eq_true_eq] at hfits
      obtain ⟨⟨hn, -⟩, hown⟩ := hfits
      refine rosterItem_known ((State.hasPeer_iff ..).mpr ⟨hn, hown⟩) fun hf => hrest ?_
      obtain ⟨-, hcurrent, -⟩ := hs
      obtain ⟨-, -, hsuffix⟩ := hcurrent a ha
      simp only [hitems, Frame.items, hf] at hsuffix
      have hlength := hsuffix.length_le
      exact List.eq_nil_of_length_eq_zero (by simpa using hlength)

end

end State
end Sys2Proof.Machine
end

section
/-! SUPPORT. Chains of moves: slots, the line, the entries to the station states and the timers. -/

namespace Sys2Proof.Machine

namespace State

variable {src : Option Addr} {ok : Prop}

/-! ### Slots -/

/-- The station is one that may send, and the line is idle with its ladder running (R147, R148). -/
def MaySend (s : State) : Prop :=
  s.line.state = .idle ∧ (s.station = .active ∨ s.station = .detached ∨ s.station = .leaving)

theorem send_moves {s : State} (h : s.MaySend) {b : BuiltFrame} (slot : Nat)
    (hbody : b.frame.body = .farewell →
      s.station = .leaving ∨ ∃ b', s.tx.frame = some b' ∧ b'.frame.body = .farewell) :
    State.Moves src ok s (s.send b slot) :=
  .one (.send b slot h.1 h.2 hbody)

theorem sendNew_moves {s : State} (h : s.MaySend) {body : Body} (slot : Nat)
    (hbody : body = .farewell → s.station = .leaving) : State.Moves src ok s (s.sendNew body slot) :=
  ((Moves.refl s).shed (tx := { s.tx with sequence := s.tx.sequence + 1 }) (.of_lists (.refl _) (.refl _) rfl)).trans
    (send_moves (s := { s with tx := { s.tx with sequence := s.tx.sequence + 1 } }) h slot fun he => .inl (hbody he))

theorem claimBuilt_moves (s : State) (p : PointId) : State.Moves src ok s (s.claimBuilt p) := by
  unfold State.claimBuilt
  dsimp only
  split
  · rename_i h
    exact (Moves.refl s).put (PointRecord.phase_turns h.1 (.inr ⟨rfl, by simp [h.2]⟩)) (.of_state rfl)
  · exact .refl s

theorem claimBuilt_line (s : State) (p : PointId) : (s.claimBuilt p).line = s.line := by
  unfold State.claimBuilt
  dsimp only
  split <;> rfl

/-- A request leaves the control list and its frame goes out (R158, R162). -/
theorem sendRequest_moves {s : State} (h : s.MaySend) {r : Request} (slot : Nat)
    (hr : r = .farewell → s.station = .leaving) : State.Moves src ok s (s.sendRequest r slot) := by
  have hremoved (q : Request) : State.Moves src ok s { s with tx := s.tx.remove q } :=
    (Moves.refl s).shed (s.tx.remove_sheds q)
  have hsent (q : Request) (body : Body) (hbody : body = .farewell → s.station = .leaving) :
      State.Moves src ok { s with tx := s.tx.remove q } (State.sendNew { s with tx := s.tx.remove q } body slot) :=
    sendNew_moves (s := { s with tx := s.tx.remove q }) h slot hbody
  cases r with
  | claim p =>
    have hmay : (State.claimBuilt { s with tx := s.tx.remove (.claim p) } p).MaySend := by
      unfold State.MaySend State.station
      rw [claimBuilt_line, State.claimBuilt_ctrl]
      exact h
    exact ((hremoved _).trans (claimBuilt_moves _ p)).trans (sendNew_moves hmay slot (by simp))
  | assert p => exact (hremoved (.assert p)).trans (hsent _ _ (by simp))
  | release p => exact (hremoved (.release p)).trans (hsent _ _ (by simp))
  | presence => exact (hremoved .presence).trans (hsent _ _ (by simp))
  | farewell => exact (hremoved .farewell).trans (hsent _ _ fun _ => hr rfl)
  | _ =>
    rename_i x ids
    -- RECALL, the one kind left.
    exact (hremoved (.recall x ids)).trans (hsent _ _ (by simp))

theorem sendPublish_moves {s : State} (h : s.MaySend) (slot : Nat) : State.Moves src ok s (s.sendPublish slot) :=
  ((Moves.refl s).shed (tx := { s.tx with publish := s.tx.publish.drop Config.recordsPerPublish })
    (.of_lists (.refl _) (List.drop_sublist ..) rfl)).trans
    (sendNew_moves (s := { s with tx := { s.tx with publish := s.tx.publish.drop Config.recordsPerPublish } }) h slot
      (by simp))

/-- The retry frame goes out as it was built (R153). -/
theorem retry_moves {s : State} (h : s.MaySend) {b : BuiltFrame} {urgent : Bool}
    (hb : s.tx.retryFrame = some (b, urgent)) (slot : Nat) : State.Moves src ok s (s.send b slot) := by
  refine send_moves h slot fun he => .inr ⟨b, ?_, he⟩
  unfold Scheduler.retryFrame at hb
  split at hb
  · split at hb
    · cases hb
      assumption
    all_goals cases hb
  · cases hb

theorem oldest_kind {t : Scheduler} {kind : FrameKind} {r : Request}
    (h : t.oldest kind = some r) : r.kind = kind := by
  simpa using List.find?_some h

/-- The requests that the slots choose from are none of them a FAREWELL (R160, R161). -/
theorem findSome_oldest_ne_farewell {t : Scheduler} {kinds : List FrameKind} {r : Request}
    (h : kinds.findSome? t.oldest = some r) (hk : FrameKind.farewell ∉ kinds) : r ≠ .farewell := by
  obtain ⟨kind, hkind, hr⟩ := List.exists_of_findSome?_eq_some h
  rintro rfl
  have hfarewell : FrameKind.farewell = kind := oldest_kind hr
  exact hk (hfarewell ▸ hkind)

theorem rankedOffer_moves {s : State} (hidle : s.line.state = .idle) (slot : Nat) :
    State.Moves src ok s (State.rankedOffer slot s) := by
  have hrunning (h : s.MaySend) :
      State.Moves src ok s (if s.ctrl.freshStart then s.freshSlot slot else s.plainSlot slot) := by
    split
    · unfold State.freshSlot
      split
      · split
        · exact retry_moves h ‹_› slot
        · exact .refl s
      · exact sendRequest_moves (r := .presence) h slot (by simp)
    · unfold State.plainSlot
      split
      · exact retry_moves h ‹_› slot
      · split
        · rename_i hr
          exact sendRequest_moves h slot fun he => absurd he (findSome_oldest_ne_farewell hr (by simp))
        · split
          · exact .refl s
          · exact sendPublish_moves h slot
  unfold State.rankedOffer
  split
  · exact hrunning ⟨hidle, .inl ‹_›⟩
  · exact hrunning ⟨hidle, .inr (.inl ‹_›)⟩
  · rename_i hst
    have hmay : s.MaySend := ⟨hidle, .inr (.inr hst)⟩
    unfold State.leavingSlot
    split
    · exact retry_moves hmay ‹_› slot
    · split
      · exact sendRequest_moves hmay slot fun _ => hst
      · exact .refl s
  all_goals exact .refl s

theorem urgentOffer_moves {s : State} (hidle : s.line.state = .idle) : State.Moves src ok s s.urgentOffer := by
  have hrunning (h : s.MaySend) : State.Moves src ok s (if s.ctrl.freshStart then s else s.urgentChoice) := by
    split
    · exact .refl s
    · unfold State.urgentChoice
      split
      · split
        · exact retry_moves h ‹_› 0
        · exact .refl s
      · split
        · rename_i hr
          exact sendRequest_moves h 0 fun he => absurd he (findSome_oldest_ne_farewell hr (by simp))
        · exact .refl s
  unfold State.urgentOffer
  split
  · exact hrunning ⟨hidle, .inl ‹_›⟩
  · exact hrunning ⟨hidle, .inr (.inl ‹_›)⟩
  all_goals exact .refl s

/-- A slot of a round, 0 to N, begins (R147, R148). -/
theorem slotBegins_moves {s : State} {slot : Nat} (hslot : slot ≤ s.n.toNat) {offer : State → State}
    (ho : ∀ t : State, t.line.state = .idle → State.Moves src ok t (offer t)) :
    State.Moves src ok s (s.slotBegins slot offer) := by
  unfold State.slotBegins
  split
  · rename_i l hidle hl
    have hline : State.Moves src ok s { s with line := { s.line with ladder := some (l.reach slot) } } := by
      refine .one (.line _ .rfl .rfl fun hfits => ⟨by simp [hidle], fun k hk => ?_⟩)
      obtain ⟨-, hoffered⟩ := hfits.2 l hl
      cases hk
      refine ⟨by simp only [Ladder.reach]; omega, ?_⟩
      simp only [Ladder.reach]
      split <;> omega
    dsimp only
    split
    · exact hline.trans (ho _ hidle)
    · exact hline
  · exact .refl s

theorem urgentSlot_moves (s : State) : State.Moves src ok s s.urgentSlot :=
  slotBegins_moves (Nat.zero_le _) fun _ h => urgentOffer_moves h

theorem rankedSlot_moves (s : State) : State.Moves src ok s s.rankedSlot := by
  refine slotBegins_moves ?_ fun _ h => rankedOffer_moves h _
  have := rankOf_lt s.n s.own s.line.lastSource
  unfold State.rankedSlotNumber
  omega

/-! ### The entries to the station states -/

/-- Session end (R29, R118). -/
theorem endSession_moves (s : State) (cause : Cause) : State.Moves none ok s (s.endSession cause) := by
  refine .one (.blank ⟨rfl, rfl, rfl, rfl, rfl, fun p => ?_, rfl, rfl, rfl, rfl, rfl, rfl, rfl, rfl, fun x => ?_⟩ rfl rfl)
  · simp [State.endSession, State.pt, PointRecord.vacate]
  · simp [State.endSession, State.peer]

/-- The publish list is emptied; visits of the entry to DETACHED do not look at it. -/
def unpublished (s : State) : State := { s with tx := { s.tx with publish := [] } }

theorem loseClaimDetached_unpublished (p : PointId) (s : State) :
    State.loseClaimDetached p s.unpublished = (State.loseClaimDetached p s).unpublished := by
  by_cases h : (s.pt p).state = .claiming
  · rw [State.loseClaimDetached_claiming h, State.loseClaimDetached_claiming (s := s.unpublished) h]
    rfl
  · rw [State.loseClaimDetached_other h, State.loseClaimDetached_other (s := s.unpublished) h]

theorem loseClaimDetached_station (p : PointId) (s : State) :
    (State.loseClaimDetached p s).station = s.station := by
  by_cases h : (s.pt p).state = .claiming
  · rw [State.loseClaimDetached_claiming h]
    rfl
  · rw [State.loseClaimDetached_other h]

theorem loseClaimDetached_moves {s : State} (hst : s.station = .detached) (p : PointId) :
    State.Moves src ok s (State.loseClaimDetached p s) := by
  unfold State.loseClaimDetached
  dsimp only
  split
  · rename_i h
    have hlost : State.Moves src ok s ((s.withdrawClaim p).setPt p ((s.pt p).vacate none)) :=
      withdrawClaim_moves h PointRecord.vacate_none_turns (uncounted_vacate ..)
    split
    · exact hlost.offer
    · exact (hlost.trans
        (requestRelease_moves (s := (s.withdrawClaim p).setPt p ((s.pt p).vacate none)) (.inr hst) p)).offer
  · exact .refl s

/-- ACTIVE to DETACHED (R199). -/
theorem enterDetached_moves {s : State} (h : s.station = .active) (cause : Cause) :
    State.Moves src ok s (s.enterDetached cause) := by
  have hcommute : s.enterDetached cause = (s.turnDetached cause).unpublished.sweep State.loseClaimDetached := by
    rw [State.enterDetached_visits]
    exact (List.foldl_hom State.unpublished (g₁ := fun t p => State.loseClaimDetached p t)
      (g₂ := fun t p => State.loseClaimDetached p t) fun t p => loseClaimDetached_unpublished p t).symm
  have hturned : State.Moves src ok s (s.turnDetached cause).unpublished :=
    (Moves.one (.detached cause h)).quiet (.refl _)
  rw [hcommute]
  exact hturned.sweep rfl fun p u hu => ⟨(loseClaimDetached_station p u).trans hu, loseClaimDetached_moves hu p⟩

/-- DETACHED to ACTIVE (R201). -/
theorem resumeActive_moves {s : State} (h : s.station = .detached) : State.Moves src ok s s.resumeActive := by
  have hturned : State.Moves src ok s
      (let t := { s with host := { s.host with condition := none } }.changeStation .active .host
       { t with ctrl := { t.ctrl with leaseTimer := t.ctrl.config.leaseStart } }) :=
    (Moves.one (.resumed h)).quiet (.refl _)
  exact hturned.sweep rfl fun p u hu => ⟨(appendHeld_station u p).trans hu, appendHeld_moves hu p⟩

/-! ### The line -/

/-- The line changes where it is neither OFF nor SENDING before and after. -/
theorem line_moves {s : State} {line : Line} (h : s.line.state ≠ .off ∧ s.line.state ≠ .sending)
    (h' : line.state ≠ .off ∧ line.state ≠ .sending) (hladder : line.LadderFits s.n) :
    State.Moves src ok s { s with line := line } :=
  .one (.line line (iff_of_false h'.1 h.1) (iff_of_false h'.2 h.2) fun _ => hladder)

/-- The gap timer, the octets and the last source are no matter to the ladder. -/
theorem gap_moves {s : State} {line : Line} (hstate : line.state = s.line.state) (hladder : line.ladder = s.line.ladder) :
    State.Moves src ok s { s with line := line } := by
  refine .one (.line line (by rw [hstate]) (by rw [hstate]) fun hfits => ?_)
  unfold Line.LadderFits at *
  rwa [hstate, hladder]

/-- A line on which no ladder runs. -/
theorem ladderFits_none {n : SegmentSize} {l : Line} (hstate : l.state ≠ .idle) (hladder : l.ladder = none) :
    l.LadderFits n := by
  simp [Line.LadderFits, hstate, hladder]

/-- An idle line on which a ladder begins. -/
theorem ladderFits_begun {n : SegmentSize} {l : Line} (hstate : l.state = .idle) (hladder : l.ladder = some {}) :
    l.LadderFits n := by
  simp [Line.LadderFits, hstate, hladder]

theorem startBit_moves (s : State) : State.Moves src ok s s.startBit := by
  unfold State.startBit
  split
  · rename_i h
    exact line_moves (by simp [h]) (by simp) (ladderFits_none (by simp) rfl)
  case h_6 => exact .refl s
  all_goals exact gap_moves rfl rfl

theorem seekingDone_moves (s : State) : State.Moves src ok s s.seekingDone := by
  unfold State.seekingDone
  split
  · rename_i h
    exact line_moves (by simp [h.1]) (by simp) (ladderFits_begun rfl rfl)
  · exact .refl s

theorem closeFrame_moves {s : State} (h : s.line.state ≠ .off ∧ s.line.state ≠ .sending) (x : Addr) :
    State.Moves src ok s (s.closeFrame x) :=
  line_moves h (by simp) (ladderFits_begun rfl rfl)

/-! ### The own frame -/

theorem claimDropped_moves (s : State) (p : PointId) : State.Moves src ok s (s.claimDropped p) := by
  unfold State.claimDropped
  dsimp only
  split
  · rename_i h
    have hlost : State.Moves src ok s
        (State.setPt { s with claimingCount := s.claimingCount - 1 } p ((s.pt p).vacate none)) :=
      .one (.unclaim p _ s.tx PointRecord.vacate_none_turns h.2.1 (uncounted_vacate ..) (.refl _))
    exact hlost.offer
  · exact .refl s

theorem dropReport_moves (s : State) (b : Body) : State.Moves none ok s (s.dropReport b) := by
  unfold State.dropReport
  split
  · exact claimDropped_moves s _
  · split
    · rename_i hst
      exact (Moves.refl s).foldl (P := fun u => u.station = .active) hst fun u r hu =>
        ⟨(appendHeld_station u r.point).trans hu, appendHeld_moves hu r.point⟩
    · exact .refl s
  · exact endSession_moves s _
  all_goals exact .refl s

theorem collides_moves (s : State) : State.Moves none ok s s.collides := by
  unfold State.collides
  split
  · rename_i b hsending hb
    split
    · rename_i slot hplace
      split
      · exact .refl s
      · have hground (frame : Option BuiltFrame)
            (hframe : ∀ b', frame = some b' → b'.frame = b.frame ∧ ∀ k, b'.place ≠ .inFlight k) :
            State.Moves none ok s { s with
              line := { s.line with state := .discarding true, octets := [], gap := some 0, ladder := none }
              counters := { s.counters with collisions := countUp s.counters.collisions }
              tx := { s.tx with frame := frame } } :=
          (Moves.one (.ground { s.line with state := .discarding true, octets := [], gap := some 0, ladder := none } frame
            hsending (by simp) (by simp) (ladderFits_none (by simp) rfl) fun b' hb' =>
              ⟨⟨b, hb, by rw [(hframe b' hb').1]⟩, (hframe b' hb').2⟩)).quiet
            (.refl _)
        unfold State.aborted
        split
        · exact hground none (by simp)
        · split
          · exact (hground none (by simp)).countDropped.trans (dropReport_moves _ _)
          · exact hground (some _) fun b' hb' => by
              cases hb'
              exact ⟨rfl, by simp⟩
    all_goals exact .refl s
  · exact .refl s

theorem characterReadBack_moves (s : State) (octet : Octet) (stopHigh : Bool) :
    State.Moves none ok s (s.characterReadBack octet stopHigh) := by
  unfold State.characterReadBack
  split
  · rename_i b hb
    split
    · split
      · refine Moves.trans ((Moves.refl s).shed (tx := { s.tx with frame := some { b with readBack := b.readBack + 1 } })
          ⟨.refl _, .refl _, ?_, fun b' hb' => ⟨b, hb, ?_⟩⟩) (gap_moves rfl rfl)
        · simp [Scheduler.flying, hb]
        · cases hb'
          rfl
      · exact collides_moves s
    · exact gap_moves rfl rfl
  · exact .refl s

theorem character_moves (s : State) (octet : Octet) (stopHigh : Bool) :
    State.Moves none ok s (s.character octet stopHigh) := by
  unfold State.character
  split
  · rename_i h
    split
    · exact gap_moves rfl rfl
    · refine .one (.line _ (by simp [h]) (by simp [h]) fun hfits => ?_)
      have hnone : s.line.ladder = none := by simpa [h] using hfits.1
      exact ladderFits_none (by simp) hnone
  · exact gap_moves rfl rfl
  · exact gap_moves rfl rfl
  · exact characterReadBack_moves s octet stopHigh
  all_goals exact .refl s

theorem restartRefresh_moves (s : State) (p : PointId) : State.Moves src ok s (s.restartRefresh p) := by
  unfold State.restartRefresh
  dsimp only
  split
  · exact (Moves.refl s).put (PointRecord.refreshTimer_turns ‹_›) (.of_state rfl)
  · exact .refl s

theorem startWindow_moves (s : State) (p : PointId) : State.Moves src ok s (s.startWindow p) := by
  unfold State.startWindow
  dsimp only
  split
  · rename_i h
    exact (Moves.refl s).put (PointRecord.phase_turns h.1 (.inl rfl)) (.of_state rfl)
  · exact .refl s

theorem endReport_moves (s : State) (b : Body) : State.Moves none ok s (s.endReport b) := by
  unfold State.endReport
  split
  · split
    · exact .one (.retime _ ⟨rfl, rfl, by simp, rfl, rfl, .inl rfl⟩)
    · exact .refl s
  · split
    · exact (Moves.refl s).foldl (P := fun _ => True) trivial fun u r _ => ⟨trivial, restartRefresh_moves u r.point⟩
    · exact .refl s
  · split
    · exact startWindow_moves s _
    · exact .refl s
  · exact endSession_moves s _
  all_goals exact .refl s

theorem ownFrameEnds_moves (s : State) : State.Moves none ok s s.ownFrameEnds := by
  unfold State.ownFrameEnds
  split
  · rename_i b hsending hb
    split
    · split
      · exact (Moves.one (.ground _ none hsending (by simp) (by simp) (ladderFits_begun rfl rfl) (by simp))).trans
          (endReport_moves _ _)
      · exact .refl s
    all_goals exact .refl s
  · exact .refl s

/-! ### A received frame -/

/-- A frame that was read on this segment and is another station's fits (R134, R135). -/
theorem takeFrame_moves {s : State} {f : Frame} (hf : s.frameFits f = true) : State.Moves src ok s (s.takeFrame f) := by
  unfold State.takeFrame
  split
  · exact (Moves.refl s).quiet (.refl _)
  · split
    · exact .refl s
    · rename_i htakes
      have htakes : ¬ s.takesFrames = false := by simpa using htakes
      split
      · refine .one (.reception _ (fun hs => ?_) fun _ a ha hitems => .inr ⟨a, ha, rfl, hitems⟩)
        obtain ⟨hwaiting, hcurrent, -⟩ := hs
        refine ⟨fun g hg => ?_, hcurrent, fun h => absurd (by exact h) htakes⟩
        rcases List.mem_append.mp hg with hg | hg
        · exact hwaiting g hg
        · rw [List.mem_singleton.mp hg]
          exact hf
      · exact (Moves.refl s).quiet (.refl _)

theorem clash_moves (s : State) : State.Moves src ok s s.clash := by
  rcases s.clash_cases with ⟨-, h⟩ | ⟨ht, ⟨-, h⟩ | ⟨-, h⟩⟩ <;> rw [h]
  · exact .refl s
  · exact ((Moves.refl s).quiet (u := { s with slotFirst := s.slotFirst.tail })
      (.refl _)).move (.clashed ht)
  · refine (((Moves.refl s).quiet (u := { s with slotFirst := s.slotFirst.tail })
      (.refl _)).trans (urgentSlot_moves _)).move (.clashed ?_)
    rwa [takesFrames_congr (s := s) (by rw [State.station, State.urgentSlot_ctrl])]

theorem frameEnds_moves (s : State) : State.Moves src ok s s.frameEnds := by
  have hcount (counters : Counters) (h : s.line.state ≠ .off ∧ s.line.state ≠ .sending) (x : Addr) :
      State.Moves src ok s (State.closeFrame { s with counters := counters } x) :=
    ((Moves.refl s).quiet (u := { s with counters := counters })
      (.refl _)).trans
      (closeFrame_moves (s := { s with counters := counters }) h x)
  unfold State.frameEnds
  split
  · split
    · rename_i hline
      have hopen : s.line.state ≠ .off ∧ s.line.state ≠ .sending := by simp [hline]
      unfold State.judgeFrame
      dsimp only
      split
      · exact hcount _ hopen _
      · split
        · exact hcount _ hopen _
        · split
          · exact hcount _ hopen _
          · rename_i f hf
            split
            · exact (closeFrame_moves hopen _).trans (clash_moves _)
            · rename_i hown
              refine (closeFrame_moves hopen _).trans (takeFrame_moves ?_)
              simp only [State.frameFits, Bool.and_eq_true, decide_eq_true_eq]
              exact ⟨(readFrame_eq_some hf).1, hown⟩
    · rename_i hline
      exact hcount _ (by simp [hline]) _
    · rename_i hline
      exact closeFrame_moves (by simp [hline]) _
    all_goals exact .refl s
  · exact .refl s

theorem takeNextFrame_moves (s : State) : State.Moves src ok s s.takeNextFrame := by
  unfold State.takeNextFrame
  split
  · rename_i f rest happlying hfifo
    obtain ⟨body, hbody, -⟩ := frame_items_eq s.own f
    refine .one (.reception _ (fun hs => ?_) fun _ a ha hitems => ?_)
    · obtain ⟨hwaiting, -, hnone⟩ := hs
      refine ⟨fun g hg => hwaiting g (hfifo ▸ List.mem_cons_of_mem _ hg), fun a ha => ?_, fun h => ?_⟩
      · cases ha
        exact ⟨hwaiting f (hfifo ▸ List.mem_cons_self ..), by simp [hbody], List.suffix_refl _⟩
      · simpa [hfifo] using (hnone h).1
    · cases ha
      simp [hbody] at hitems
  · exact .refl s

/-! ### Timers -/

theorem claimWindowExpires_moves (s : State) (p : PointId) : State.Moves src ok s (s.claimWindowExpires p) := by
  unfold State.claimWindowExpires
  dsimp only
  split
  · rename_i h
    have hwon : State.Moves src ok s { s.setPt p ((s.pt p).won s.own) with
        heldCount := s.heldCount + 1, claimingCount := s.claimingCount - 1 } :=
      .one (.win p _ (PointRecord.won_turns h.2.1) h.2.1 rfl)
    refine (hwon.move (.publish p h.1 ?_)).offer
    show ((s.setPt p ((s.pt p).won s.own)).pt p).state = .held
    rw [State.pt_setPt_same]
    rfl
  · exact .refl s

theorem refreshExpires_moves (s : State) (p : PointId) : State.Moves src ok s (s.refreshExpires p) := by
  unfold State.refreshExpires
  dsimp only
  split
  · rename_i h
    have hstopped : State.Moves src ok s (s.setPt p { s.pt p with refreshTimer := none }) :=
      (Moves.refl s).put (PointRecord.refreshTimer_turns h.1) (.of_state rfl)
    split
    · exact hstopped.move (.publish p ‹_› (by rw [State.pt_setPt_same]; exact h.1))
    · exact hstopped
    all_goals exact .refl s
  · exact .refl s

theorem staleExpires_moves (s : State) (p : PointId) : State.Moves src ok s (s.staleExpires p) := by
  unfold State.staleExpires
  dsimp only
  split
  · rename_i h
    split
    · exact goStale_moves h.2.1 _
    · exact .refl s
  · exact .refl s

theorem contenderExpires_moves (s : State) (p : PointId) : State.Moves src ok s (s.contenderExpires p) := by
  unfold State.contenderExpires
  dsimp only
  split
  · rename_i h
    exact dropContender_moves h.2.1
  · exact .refl s

theorem listenExpires_moves (s : State) : State.Moves src ok s s.listenExpires := by
  unfold State.listenExpires
  split
  · rename_i h
    exact .one (.active h.1)
  · exact .refl s

theorem requestPresence_moves {s : State} (hst : s.station = .active ∨ s.station = .detached) :
    State.Moves src ok s s.requestPresence := by
  unfold State.requestPresence
  split
  · exact .refl s
  · rename_i hnew
    split
    · exact (Moves.refl s).countDropped
    · rename_i hroom
      rw [Scheduler.append, if_neg hnew]
      exact append_moves hst hnew ((Scheduler.not_full_iff _).mp hroom) (by simp)

theorem presenceExpires_moves (s : State) : State.Moves src ok s s.presenceExpires := by
  unfold State.presenceExpires
  split
  · rename_i h
    obtain ⟨ms, hms, -⟩ := (timerReached_iff ..).mp h.2
    exact (Moves.one (.retime { s.ctrl with presenceTimer := some 0 }
      ⟨rfl, rfl, id, rfl, by simp [hms], .inl rfl⟩)).trans (requestPresence_moves h.1)
  · exact .refl s

theorem leaseExpires_moves (s : State) : State.Moves src ok s s.leaseExpires := by
  unfold State.leaseExpires
  split
  · rename_i h
    exact enterDetached_moves h.1 _
  · exact .refl s

theorem silence2P_moves (s : State) (x : Addr) : State.Moves src ok s (s.silence2P x) := by
  unfold State.silence2P
  dsimp only
  split
  · rename_i h
    have hsilent : State.Moves src ok s (s.setPeer x { s.peer x with state := .silent }) :=
      setPeer_moves (fun hf => by simpa [PeerEntry.fits, h.2.1] using hf) (fun _ => .inr rfl)
        fun _ habsent => by simp [h.2.1] at habsent
    exact hsilent.offer.trans (sweep_markDown_moves x _)
  · exact .refl s

theorem sourceGone_cases (r : Receiver) (x : Addr) :
    (r.sourceGone x).fifo = r.fifo ∧ ((r.sourceGone x).applying = none ∨
      ((r.sourceGone x).applying = r.applying ∧
        ∀ a, r.applying = some a → FrameItem.roster ∉ a.items → a.frame.source ≠ x)) := by
  unfold Receiver.sourceGone
  split
  · rename_i a ha
    split
    · exact ⟨rfl, .inl rfl⟩
    · rename_i h
      refine ⟨rfl, .inr ⟨rfl, fun b hb hitems hsource => h ?_⟩⟩
      rw [ha] at hb
      cases hb
      exact ⟨hsource, hitems⟩
  · rename_i ha
    exact ⟨rfl, .inl ha⟩

theorem silence5P_moves (s : State) (x : Addr) : State.Moves none ok s (s.silence5P x) := by
  unfold State.silence5P
  dsimp only
  split
  · rename_i h
    obtain ⟨hfifo, happlying⟩ := sourceGone_cases s.rx x
    have hgone := peerGone_moves (ok := ok) (s := s) (x := x) (by simp [h.2.1]) .timeout hfifo happlying
    rwa [← State.peerGone_rx s x .timeout] at hgone
  · exact .refl s

end State
end Sys2Proof.Machine
end

section
/-! SUPPORT. Chains of moves: the items of the host commands, and the SPI port. -/

namespace Sys2Proof.Machine

namespace State

variable {src : Option Addr} {ok : Prop}

/-! ### The command in hand -/

theorem violation_moves (s : State) : State.Moves src ok s s.violation := by
  unfold State.violation
  split
  · exact enterDetached_moves ‹_› _
  · exact .refl s

theorem notAdmitted_moves (s : State) (c : HostCommand) : State.Moves src ok s (s.notAdmitted c).state := by
  cases c
  case resume => exact (Moves.refl s).quiet (.refl _)
  all_goals exact .refl s

/-- The checks of R175: the item is reached where the station state admits the command. -/
theorem judge_moves {s : State} {q : QueuedCommand} {item : List Octet → State → Answered}
    (hi : (HostCommand.ofCode q.code).any (·.admittedIn s.station) = true →
      State.Moves src ok s (item q.params s).state) : State.Moves src ok s (s.judge q item).state := by
  simp only [State.judge]
  split
  · exact s.violation_moves
  · cases hq : HostCommand.ofCode q.code with
    | none => exact .refl s
    | some c =>
      rw [hq] at hi
      dsimp only
      split
      · split
        · exact hi ‹_›
        · exact s.notAdmitted_moves c
      · exact .refl s

/-- Composing the answer changes the Host Port alone (R172, R192). -/
theorem answer_core (s : State) (q : QueuedCommand) (status : Status) (data : List Octet) :
    s.SameCore ((s.recordCondition q status).deliver q status data) := by
  unfold State.deliver State.recordCondition
  split <;> split <;> exact (.refl _)

/-- A host command is a chain of moves when its item is one in the station states that it is admitted in. -/
theorem takeCommand_moves {named : Option HostCommand} {item : List Octet → State → Answered}
    (hi : ∀ (params : List Octet) (t : State), named.any (·.admittedIn t.station) = true →
      State.Moves src ok t (item params t).state) (s : State) : State.Moves src ok s (s.takeCommand named item) := by
  unfold State.takeCommand
  split
  · exact .refl s
  · split
    · rename_i q rest _ hq
      have hdequeued : State.Moves src ok s (s.dequeued rest) :=
        (Moves.refl s).quiet (.refl _)
      exact (hdequeued.trans (judge_moves fun h => hi _ _ (hq ▸ h))).quiet (answer_core ..)
    · exact .refl s

/-! ### The station's commands (sections 8.2 and 8.3) -/

theorem getStation_moves (s : State) : State.Moves src ok s s.getStation := by
  have htake (t : State) : State.Moves src ok t (t.takeCommand (some .getStation) getStationItem) :=
    takeCommand_moves
      (fun _ u _ => (Moves.refl u).quiet (.refl _)) t
  unfold State.getStation
  split
  · split
    · exact htake s
    · rename_i last rest _
      have hbreak : State.Moves src ok s { s with breaks := rest } :=
        (Moves.refl s).quiet (.refl _)
      dsimp only
      split
      · exact hbreak.trans (htake _)
      · exact hbreak.quiet (.refl _)
  · exact htake s

/-- Every record takes a new subscribed flag, or keeps its own. -/
theorem subscribed_moves {s : State} {points : Vector PointRecord 256}
    (h : ∀ p : PointId, ∃ flag, points[p] = { s.pt p with subscribed := flag }) :
    State.Moves src ok s { s with points := points } := by
  refine .one (.table points (fun p => ?_) fun p => ?_) <;> obtain ⟨flag, hp⟩ := h p
  · exact hp ▸ PointRecord.subscribed_turns
  · rw [hp]

theorem configured_moves {s : State} (h : s.station = .offline) (c : Configuration) (all : Bool) :
    State.Moves src ok s (s.configured c all) := by
  refine (Moves.one (.configure c h)).trans (subscribed_moves fun p => ?_)
  cases all
  · exact ⟨(s.pt p).subscribed, rfl⟩
  · exact ⟨true, by simp [State.pt]⟩

theorem configureItem_moves (params : List Octet) {s : State} (h : HostCommand.configure.admittedIn s.station = true) :
    State.Moves src ok s (configureItem params s).state := by
  have hoff : s.station = .offline := by simpa [HostCommand.admittedIn] using h
  unfold configureItem
  split
  · split
    · exact .refl s
    · split
      · split
        · exact configured_moves hoff _ _
        · exact .refl s
      · exact .refl s
  · exact .refl s

theorem joinItem_moves (params : List Octet) {s : State} (h : HostCommand.join.admittedIn s.station = true) :
    State.Moves none ok s (joinItem params s).state := by
  have hoff : s.station = .offline := by simpa [HostCommand.admittedIn] using h
  unfold joinItem
  split
  · exact .one (.listening hoff rfl)
  · exact .refl s

theorem leaveItem_moves (params : List Octet) (s : State) : State.Moves none ok s (leaveItem params s).state := by
  unfold leaveItem
  split
  · exact s.endSession_moves .host
  · exact s.endSession_moves .host
  · exact .one (.leaving (.inl ‹_›))
  · exact .one (.leaving (.inr ‹_›))
  · exact .refl s
  · exact .refl s

theorem resumeItem_moves (params : List Octet) {s : State} (h : HostCommand.resume.admittedIn s.station = true) :
    State.Moves src ok s (resumeItem params s).state := by
  have hst : s.station = .detached := by simpa [HostCommand.admittedIn] using h
  simpa only [resumeItem, State.accept] using resumeActive_moves hst

theorem clearConditionItem_moves (params : List Octet) (s : State) :
    State.Moves src ok s (clearConditionItem params s).state := by
  unfold clearConditionItem
  split
  · exact (Moves.refl s).quiet (.refl _)
  · exact .refl s

/-! ### The points' commands (sections 8.4 and 8.5) -/

theorem readPointItem_moves (params : List Octet) (s : State) : State.Moves src ok s (readPointItem params s).state := by
  unfold readPointItem
  split <;> exact .refl s

theorem writePointItem_moves (params : List Octet) {s : State} (h : HostCommand.writePoint.admittedIn s.station = true) :
    State.Moves src ok s (writePointItem params s).state := by
  have hst : s.station = .active := by simpa [HostCommand.admittedIn] using h
  unfold writePointItem
  split
  · rename_i o octets
    dsimp only
    split
    · exact .refl s
    · rename_i hheld
      rw [not_not] at hheld
      split
      · exact .refl s
      · rename_i hlength
        rw [not_not] at hlength
        refine ((Moves.refl s).put (PointRecord.written_turns hheld hlength) (.of_state rfl)).move (.publish _ hst ?_)
        simpa [PointRecord.written] using hheld
  · exact .refl s

/-- The CLAIM request takes the place of a waiting RELEASE, or the next one where there is room (R31). -/
theorem requestClaim_moves {s : State} (hst : s.station = .active) {p : PointId}
    (hroom : ¬ (s.tx.full = true ∧ Request.release p ∉ s.tx.control)) :
    State.Moves src ok s { s with tx := (s.tx.remove (.release p)).append (.claim p) } := by
  have hsub : (s.tx.remove (.release p)).control.Sublist s.tx.control := (s.tx.remove_sheds _).control
  unfold Scheduler.append
  split
  · exact (Moves.refl s).shed (s.tx.remove_sheds _)
  · rename_i hnew
    refine .one (.request _ (.inl hst) (fun h => ?_) (fun h => ?_) fun h => ?_)
    · exact List.nodup_append.mpr ⟨h.sublist hsub, List.nodup_singleton _, by rintro a ha b hb rfl; simp_all⟩
    · simp only [List.length_append, List.length_singleton, Config.controlCapacity] at h ⊢
      by_cases hm : Request.release p ∈ s.tx.control
      · have hshort : (s.tx.remove (.release p)).control.length < s.tx.control.length :=
          List.length_filter_lt_length_iff_exists.mpr ⟨_, hm, by simp⟩
        omega
      · have hlong : s.tx.control.length < 16 := s.tx.not_full_iff.mp fun hf => hroom ⟨hf, hm⟩
        have := hsub.length_le
        omega
    · rw [List.mem_append] at h
      exact hsub.subset (h.resolve_right (by simp))

theorem claimPointItem_moves (params : List Octet) {s : State} (h : HostCommand.claimPoint.admittedIn s.station = true) :
    State.Moves src ok s (claimPointItem params s).state := by
  have hst : s.station = .active := by simpa [HostCommand.admittedIn] using h
  unfold claimPointItem
  split
  · rename_i o length octets
    dsimp only
    split_ifs with hfree hlength hlimit hroom
    iterate 4 exact .refl s
    refine (Moves.one (.claim (octetPoint o) ((s.pt (octetPoint o)).claimed s.own octets)
      (PointRecord.claimed_turns ?_) ?_ rfl ?_ ?_)).trans (requestClaim_moves (by exact hst) (by exact hroom))
    · omega
    · have hfree : (s.pt (octetPoint o)).state = .vacant ∨ (s.pt (octetPoint o)).state = .stale := by tauto
      rcases hfree with h | h <;> simp [PointRecord.uncounted, h]
    · omega
    · omega
  · exact .refl s

theorem releasePointItem_moves (params : List Octet) {s : State}
    (h : HostCommand.releasePoint.admittedIn s.station = true) :
    State.Moves src ok s (releasePointItem params s).state := by
  have hst : s.station = .active ∨ s.station = .detached := by simpa [HostCommand.admittedIn] using h
  unfold releasePointItem
  split
  · rename_i o more
    dsimp only
    split
    · rename_i hheld
      exact (leaveHeld_moves hheld PointRecord.vacate_none_turns (uncounted_vacate ..)).trans
        (requestRelease_moves (by exact hst) _)
    · rename_i hclaiming
      have hwithdrawn := withdrawClaim_moves (src := src) (ok := ok) hclaiming PointRecord.vacate_none_turns
        (uncounted_vacate (s.pt (octetPoint o)) none)
      split
      · exact hwithdrawn
      · exact hwithdrawn.trans (requestRelease_moves (by exact hst) _)
    all_goals exact .refl s
  · exact .refl s

/-- A merged control list keeps its requests, but for the one that takes the id. -/
theorem mem_mergeRecall {x : Addr} {p : PointId} {r : Request} {l l' : List Request} (h : mergeRecall x p l = some l')
    (hr : r ∈ l') : r ∈ l ∨ r.recalls x p = true := by
  induction l generalizing l' with
  | nil => cases h
  | cons r' rest ih =>
    unfold mergeRecall at h
    split at h
    · rename_i hroom
      cases h
      rcases List.mem_cons.mp hr with rfl | hr
      · right
        cases r' <;> simp [Request.recallRoom] at hroom
        simp [Request.addId, Request.recalls, hroom]
      · exact .inl (.tail _ hr)
    · obtain ⟨rest', hrest, rfl⟩ := Option.map_eq_some_iff.mp h
      rcases List.mem_cons.mp hr with rfl | hr
      · exact .inl (.head _)
      · exact (ih hrest hr).imp_left (.tail _)

theorem length_mergeRecall {x : Addr} {p : PointId} {l l' : List Request} (h : mergeRecall x p l = some l') :
    l'.length = l.length := by
  induction l generalizing l' with
  | nil => cases h
  | cons r rest ih =>
    unfold mergeRecall at h
    split at h
    · cases h
      rfl
    · obtain ⟨rest', hrest, rfl⟩ := Option.map_eq_some_iff.mp h
      simp [ih hrest]

/-- Where no RECALL to the owner names the point, the merged request is a new one. -/
theorem nodup_mergeRecall {x : Addr} {p : PointId} {l l' : List Request} (h : mergeRecall x p l = some l')
    (hnone : ∀ r ∈ l, r.recalls x p = false) (hl : l.Nodup) : l'.Nodup := by
  induction l generalizing l' with
  | nil => cases h
  | cons r rest ih =>
    rw [List.nodup_cons] at hl
    obtain ⟨hr, hl⟩ := hl
    unfold mergeRecall at h
    split at h
    · rename_i hroom
      cases h
      refine List.nodup_cons.mpr ⟨fun hm => ?_, hl⟩
      have hno := hnone _ (.tail _ hm)
      cases r <;> simp [Request.recallRoom] at hroom
      simp [Request.addId, Request.recalls, hroom] at hno
    · obtain ⟨rest', hrest, rfl⟩ := Option.map_eq_some_iff.mp h
      refine List.nodup_cons.mpr ⟨fun hm => ?_, ih hrest (fun r' hr' => hnone r' (.tail _ hr')) hl⟩
      rcases mem_mergeRecall hrest hm with hm | hm
      · exact hr hm
      · simp [hnone r (.head _)] at hm

theorem recall_moves {s : State} (hst : s.station = .active) {x : Addr} {p : PointId} {tx : Scheduler}
    (h : s.tx.recall x p = some tx) : State.Moves src ok s { s with tx := tx } := by
  unfold Scheduler.recall at h
  split at h
  · cases h
    exact .refl s
  · rename_i hnone
    have hnone : ∀ r ∈ s.tx.control, r.recalls x p = false := by simpa using hnone
    split at h
    · rename_i control hmerge
      cases h
      refine .one (.request control (.inl hst) (nodup_mergeRecall hmerge hnone) (fun h => ?_) fun h => ?_)
      · exact (length_mergeRecall hmerge).trans_le h
      · exact (mem_mergeRecall hmerge h).resolve_right (by simp [Request.recalls])
    · split at h
      · cases h
      · rename_i hroom
        cases h
        have hnew : Request.recall x [p] ∉ s.tx.control := fun hm => by
          simpa [Request.recalls] using hnone _ hm
        rw [Scheduler.append, if_neg hnew]
        exact append_moves (.inl hst) hnew (s.tx.not_full_iff.mp hroom) (by simp)

theorem recallPointItem_moves (params : List Octet) {s : State}
    (h : HostCommand.recallPoint.admittedIn s.station = true) :
    State.Moves src ok s (recallPointItem params s).state := by
  have hst : s.station = .active := by simpa [HostCommand.admittedIn] using h
  unfold recallPointItem
  split
  · dsimp only
    split
    · exact .refl s
    · split
      · exact recall_moves hst ‹_›
      · exact .refl s
  · exact .refl s

theorem subscriptionItem_moves (flag : Bool) (params : List Octet) (s : State) :
    State.Moves src ok s (subscriptionItem flag params s).state := by
  unfold subscriptionItem
  split
  · dsimp only
    split_ifs
    · exact .refl s
    · exact .refl s
    · refine subscribed_moves fun p => ?_
      simp only [Fin.getElem_fin, Vector.getElem_mapIdx]
      split
      · exact ⟨flag, rfl⟩
      · exact ⟨(s.pt p).subscribed, rfl⟩
  · exact .refl s

theorem readEventItem_moves (params : List Octet) (s : State) : State.Moves src ok s (readEventItem params s).state := by
  unfold readEventItem
  split
  · exact .refl s
  · exact (Moves.refl s).quiet (.refl _)

theorem readPeerItem_moves (params : List Octet) (s : State) : State.Moves src ok s (readPeerItem params s).state := by
  unfold readPeerItem
  split
  · split
    · split <;> exact .refl s
    · exact .refl s
  · exact .refl s

/-! ### The SPI port (section 8.1) -/

theorem csnFalls_moves (s : State) : State.Moves src ok s s.csnFalls := by
  unfold State.csnFalls
  split_ifs
  · exact (Moves.refl s).quiet (.refl _)
  · exact (Moves.refl s).quiet (.refl _)
  · exact (Moves.refl s).quiet (.refl _)
  · exact .refl s

theorem restartLease_retimed (c : Controller) : c.Retimed c.restartLease := by
  unfold Controller.restartLease
  split
  · exact ⟨rfl, rfl, id, rfl, rfl, .inr ⟨‹_›, leaseStart_isSome _⟩⟩
  · exact ⟨rfl, rfl, id, rfl, rfl, .inl rfl⟩

theorem receiveOctet_moves (s : State) (c : Receiving) (o : Octet) : State.Moves src ok s (s.receiveOctet c o) := by
  unfold State.receiveOctet
  dsimp only
  split
  · exact (Moves.refl s).quiet (.refl _)
  · exact (Moves.one (.retime _ (restartLease_retimed s.ctrl))).quiet (.refl _)

theorem lastOctet_moves (s : State) (o : Octet) : State.Moves src ok s (s.lastOctet o) := by
  unfold State.lastOctet
  split
  · split
    · exact s.receiveOctet_moves _ o
    · exact .refl s
  all_goals exact .refl s

theorem octetClocked_moves (s : State) (o : Octet) : State.Moves src ok s (s.octetClocked o) := by
  unfold State.octetClocked
  split
  case h_1 => exact .refl s
  case h_2 => exact s.receiveOctet_moves _ o
  all_goals exact (Moves.refl s).quiet (.refl _)

/-! ### Reset -/

/-- A part at its defaults is blank, whatever its straps and what the sender has queued (R28, R105). -/
theorem Blank.of_defaults {t : State} (hctrl : t.ctrl = {}) (hpoints : t.points = Vector.replicate 256 {})
    (hheld : t.heldCount = 0) (hclaiming : t.claimingCount = 0) (htx : t.tx = {}) (hline : t.line = {})
    (hrx : t.rx = {}) (hroster : t.roster = Vector.replicate 32 {}) : t.Blank := by
  constructor
  case points => simp [State.pt, hpoints]
  case roster => simp [State.peer, hroster]
  all_goals simp [hctrl, hheld, hclaiming, htx, hline, hrx]

theorem reset_blank : State.reset.Blank := .of_defaults rfl rfl rfl rfl rfl rfl rfl rfl

theorem cleared_blank (s : State) (inReset : Bool) : (s.cleared inReset).Blank :=
  .of_defaults rfl rfl rfl rfl rfl rfl rfl rfl

theorem released_blank (s : State) (address : BitVec 5) (rate : BitVec 2) : (s.released address rate).Blank :=
  .of_defaults rfl rfl rfl rfl rfl rfl rfl rfl

end State
end Sys2Proof.Machine
end

section
/-! SUPPORT. Every command of the part, and a millisecond, is a chain of moves. -/

namespace Sys2Proof.Machine

namespace State

/-! ### The items of a received frame -/

/-- A row that takes the next body item of the frame being applied (R142). -/
theorem takeItem_steps {s : State} {take : Frame → FrameItem → Option (State → State)}
    (htake : ∀ (a : Applying) (item : FrameItem) (effect : State → State), take a.frame item = some effect →
      item ≠ .roster ∧ ((s.ReceptionFits → s.frameFits a.frame = true ∧ item ∈ a.frame.items s.own) →
        ∀ t : State, t.straps = s.straps → State.Moves (some a.frame.source) s.ReceptionFits t (effect t))) :
    s.Steps (s.takeItem take) := by
  unfold State.takeItem
  split
  · rename_i a ha
    split
    · rename_i item rest hitems
      split
      · rename_i effect heffect
        obtain ⟨hitem, hmoves⟩ := htake a item effect heffect
        split
        · exact bodyItem_steps ha hitems hitem (hmoves fun hs => next_item ha hitems hs)
        · exact .of_moves (.refl s)
      · exact .of_moves (.refl s)
    · exact .of_moves (.refl s)
  · exact .of_moves (.refl s)

theorem rosterFrameItem_steps (s : State) : ∃ t, exec .rosterFrameItem s = .next t ∧ s.Steps t := by
  refine ⟨_, rfl, ?_⟩
  unfold State.takeItem
  split
  · rename_i a ha
    split
    · rename_i item rest hitems
      split
      · rename_i effect heffect
        cases item <;> cases heffect
        split
        · exact rosterItem_steps ha hitems rfl ‹_›
        · exact .of_moves (.refl s)
      · exact .of_moves (.refl s)
    · exact .of_moves (.refl s)
  · exact .of_moves (.refl s)

/-- A frame that the Frame Checker has taken comes from another station (R134). -/
theorem source_ne_own {s t : State} {f : Frame} (h : s.frameFits f = true) (hstraps : t.straps = s.straps) :
    f.source ≠ t.own := by
  unfold State.frameFits State.own at *
  rw [hstraps]
  simp only [Bool.and_eq_true, decide_eq_true_eq] at h
  exact h.2

/-- A PUBLISH record of a frame that the Frame Checker has taken is well formed (R135). -/
theorem record_wf {s : State} {f : Frame} {r : PublishRecord} (h : s.frameFits f = true)
    (hitem : FrameItem.record r ∈ f.items s.own) : r.wf = true := by
  simp only [State.frameFits, Bool.and_eq_true, Frame.wf_iff] at h
  obtain ⟨⟨-, hbody⟩, -⟩ := h
  unfold Frame.items at hitem
  cases hb : f.body with
  | publish records =>
    simp only [hb, Body.wf, Bool.and_eq_true, List.all_eq_true] at hbody
    obtain ⟨-, hrecords⟩ := hbody
    exact hrecords r (by simpa [hb] using hitem)
  | presence | claim | assert | release | farewell => simp [hb] at hitem
  | _ =>
    -- RECALL, which has its item where it is addressed to this station.
    simp only [hb] at hitem
    split at hitem <;> simp at hitem

theorem publishRecord_steps (s : State) : ∃ t, exec .publishRecord s = .next t ∧ s.Steps t := by
  refine ⟨_, rfl, takeItem_steps fun a item effect heffect => ?_⟩
  cases item <;> cases heffect
  refine ⟨by simp, fun hnext t ht => publishRecord_moves rfl (fun hs => ?_) fun hs => ?_⟩
  · exact source_ne_own (hnext hs).1 ht
  · exact record_wf (hnext hs).1 (hnext hs).2

theorem claimHeard_steps (s : State) : ∃ t, exec .claimHeard s = .next t ∧ s.Steps t := by
  refine ⟨_, rfl, takeItem_steps fun a item effect heffect => ?_⟩
  cases item <;> cases heffect
  exact ⟨by simp, fun hnext t ht => claimHeard_moves rfl (fun hs => source_ne_own (hnext hs).1 ht) _⟩

theorem assertHeard_steps (s : State) : ∃ t, exec .assertHeard s = .next t ∧ s.Steps t := by
  refine ⟨_, rfl, takeItem_steps fun a item effect heffect => ?_⟩
  cases item <;> cases heffect
  exact ⟨by simp, fun hnext t ht => assertHeard_moves rfl (fun hs => source_ne_own (hnext hs).1 ht) _ _⟩

theorem releaseHeard_steps (s : State) : ∃ t, exec .releaseHeard s = .next t ∧ s.Steps t := by
  refine ⟨_, rfl, takeItem_steps fun a item effect heffect => ?_⟩
  cases item <;> cases heffect
  exact ⟨by simp, fun _ t _ => releaseHeard_moves t _ _⟩

theorem recallHeard_steps (s : State) : ∃ t, exec .recallHeard s = .next t ∧ s.Steps t := by
  refine ⟨_, rfl, takeItem_steps fun a item effect heffect => ?_⟩
  cases item <;> cases heffect
  exact ⟨by simp, fun _ t _ => recallHeard_moves t _⟩

/-! ### Every command -/

/-- Every command of the part answers with a state that moves reach. -/
theorem exec_steps (c : Instr) (s : State) : ∃ t, exec c s = .next t ∧ s.Steps t := by
  have take {named : Option HostCommand} {item : List Octet → State → Answered}
      (hi : ∀ (params : List Octet) (t : State), named.any (·.admittedIn t.station) = true →
        State.Moves none s.ReceptionFits t (item params t).state) : s.Steps (s.takeCommand named item) :=
    .of_moves (takeCommand_moves hi s)
  cases c with
  | reset => exact ⟨_, rfl, .of_moves (.one (.blank (s.cleared_blank true) rfl rfl))⟩
  | resetRelease address rate => exact ⟨_, rfl, .of_moves (.one (.blank (s.released_blank address rate) rfl rfl))⟩
  | csnFall => exact ⟨_, rfl, .of_moves s.csnFalls_moves⟩
  | csnRise => exact ⟨_, rfl, .of_moves (.one (.quiet (.refl _)))⟩
  | commandComplete mosi => exact ⟨_, rfl, .of_moves (s.lastOctet_moves mosi)⟩
  | spiOctetClocked mosi => exact ⟨_, rfl, .of_moves (s.octetClocked_moves mosi)⟩
  | unknownCommand => exact ⟨_, rfl, take fun _ t _ => .refl t⟩
  | getStation => exact ⟨_, rfl, .of_moves s.getStation_moves⟩
  | configure => exact ⟨_, rfl, take fun params _ => configureItem_moves params⟩
  | join => exact ⟨_, rfl, take fun params _ => joinItem_moves params⟩
  | leave => exact ⟨_, rfl, take fun params t _ => leaveItem_moves params t⟩
  | resume => exact ⟨_, rfl, take fun params _ => resumeItem_moves params⟩
  | clearCondition => exact ⟨_, rfl, take fun params t _ => clearConditionItem_moves params t⟩
  | readPoint => exact ⟨_, rfl, take fun params t _ => readPointItem_moves params t⟩
  | writePoint => exact ⟨_, rfl, take fun params _ => writePointItem_moves params⟩
  | claimPoint => exact ⟨_, rfl, take fun params _ => claimPointItem_moves params⟩
  | releasePoint => exact ⟨_, rfl, take fun params _ => releasePointItem_moves params⟩
  | recallPoint => exact ⟨_, rfl, take fun params _ => recallPointItem_moves params⟩
  | subscribe => exact ⟨_, rfl, take fun params t _ => subscriptionItem_moves true params t⟩
  | unsubscribe => exact ⟨_, rfl, take fun params t _ => subscriptionItem_moves false params t⟩
  | readEvent => exact ⟨_, rfl, take fun params t _ => readEventItem_moves params t⟩
  | readPeer => exact ⟨_, rfl, take fun params t _ => readPeerItem_moves params t⟩
  | lineIdleAfterSeeking => exact ⟨_, rfl, .of_moves s.seekingDone_moves⟩
  | startBit => exact ⟨_, rfl, .of_moves s.startBit_moves⟩
  | characterReceived octet stopHigh => exact ⟨_, rfl, .of_moves (s.character_moves octet stopHigh)⟩
  | frameEnd => exact ⟨_, rfl, .of_moves s.frameEnds_moves⟩
  | frameEndedWithoutCollision => exact ⟨_, rfl, .of_moves s.ownFrameEnds_moves⟩
  | collision => exact ⟨_, rfl, .of_moves s.collides_moves⟩
  | urgentSlot => exact ⟨_, rfl, .of_moves s.urgentSlot_moves⟩
  | rankedSlot => exact ⟨_, rfl, .of_moves s.rankedSlot_moves⟩
  | frameProcessorTakesFrame => exact ⟨_, rfl, .of_moves s.takeNextFrame_moves⟩
  | rosterFrameItem => exact s.rosterFrameItem_steps
  | publishRecord => exact s.publishRecord_steps
  | claimHeard => exact s.claimHeard_steps
  | assertHeard => exact s.assertHeard_steps
  | releaseHeard => exact s.releaseHeard_steps
  | recallHeard => exact s.recallHeard_steps
  | claimWindowExpiry point => exact ⟨_, rfl, .of_moves (s.claimWindowExpires_moves point)⟩
  | refreshTimerExpiry point => exact ⟨_, rfl, .of_moves (s.refreshExpires_moves point)⟩
  | staleTimerExpiry point => exact ⟨_, rfl, .of_moves (s.staleExpires_moves point)⟩
  | contenderTimerExpiry point => exact ⟨_, rfl, .of_moves (s.contenderExpires_moves point)⟩
  | listenTimerExpiry => exact ⟨_, rfl, .of_moves s.listenExpires_moves⟩
  | presenceTimerExpiry => exact ⟨_, rfl, .of_moves s.presenceExpires_moves⟩
  | leaseExpiry => exact ⟨_, rfl, .of_moves s.leaseExpires_moves⟩
  | silenceTimer2P peer => exact ⟨_, rfl, .of_moves (s.silence2P_moves peer)⟩
  | silenceTimer5P peer => exact ⟨_, rfl, .of_moves (s.silence5P_moves peer)⟩

/-! ### A millisecond, and every step -/

/-- The timers and ages one millisecond later; the commands of those that are due are not queued yet (R7, R15). -/
def elapsed (s : State) : State :=
  { s with
    ctrl := s.ctrl.tick
    points := s.points.map PointRecord.tick
    roster := s.roster.map PeerEntry.tick }

theorem tick_eq (s : State) :
    s.tick = if s.station = .offline ∨ s.station = .clashed then s
      else { s.elapsed with pending := s.elapsed.dueTimers } := rfl

@[simp] theorem elapsed_pt (s : State) (p : PointId) : s.elapsed.pt p = (s.pt p).tick := by
  simp [elapsed, State.pt]

@[simp] theorem elapsed_peer (s : State) (x : Addr) : s.elapsed.peer x = (s.peer x).tick := by
  simp [elapsed, State.peer]

theorem elapsed_moves {src : Option Addr} {ok : Prop} (s : State) : State.Moves src ok s s.elapsed := by
  have htimers : s.ctrl.Retimed s.ctrl.tick :=
    ⟨rfl, rfl, id, by simp [Controller.tick, tickTimer], by simp [Controller.tick, tickTimer],
      .inl (by simp [Controller.tick, tickTimer])⟩
  have hpt (p : PointId) : (s.points.map PointRecord.tick)[p] = (s.pt p).tick := s.elapsed_pt p
  have hpeer (x : Addr) : (s.roster.map PeerEntry.tick)[x] = (s.peer x).tick := s.elapsed_peer x
  refine ((Moves.one (.retime _ htimers)).move
    (.table (s.points.map PointRecord.tick) (fun p => ?_) fun p => ?_)).move
    (.peers (s.roster.map PeerEntry.tick) (fun x hx => ?_) (fun x hx => ?_) fun x _ hx => ?_)
  · rw [hpt]
    exact PointRecord.tick_turns
  · rw [hpt]
    rfl
  · have hfits : (s.peer x).tick.fits = true := by
      have hx : (s.peer x).fits = true := hx
      revert hx
      unfold PeerEntry.fits PeerEntry.tick tickTimer
      cases (s.peer x).state <;> simp
    rwa [hpeer]
  · rw [hpeer]
    exact hx
  · rw [hpeer]
    exact hx

/-- A step is a chain of moves, but for the queue of commands, which it takes from or fills. -/
theorem step_steps {s t : State} (h : step s = .next t) :
    ∃ rest u due, State.Steps { s with pending := rest } u ∧ t = { u with pending := due } := by
  unfold step at h
  split at h
  · rename_i hnone
    cases h
    rw [tick_eq]
    split
    · exact ⟨s.pending, s, s.pending, .of_moves (.refl s), rfl⟩
    · exact ⟨s.pending, s.elapsed, _, .of_moves s.elapsed_moves, rfl⟩
  · rename_i c rest hfront
    obtain ⟨u, hu, hsteps⟩ := exec_steps c { s with pending := rest }
    rw [hu] at h
    cases h
    exact ⟨rest, _, _, hsteps, rfl⟩

/-- What every move keeps, whatever the queue of commands is, every step keeps. -/
theorem step_keeps {P : State → Prop} {s t : State} (h : step s = .next t)
    (hpending : ∀ (u : State) (l : List Instr), P u → P { u with pending := l })
    (hmove : ∀ src ok u v, State.Move src ok u v → P u → P v) (hs : P s) : P t := by
  obtain ⟨rest, u, due, ⟨src, -, hmoves⟩, rfl⟩ := step_steps h
  exact hpending u due (hmoves.keep (hmove _ _) (hpending s rest hs))

end State
end Sys2Proof.Machine
end

section
/-! SUPPORT. What every step keeps (O2, O54, O55, O57, O58). -/

namespace Sys2Proof.Machine

/-- Settles O2: `exec_steps` gives the next state, and no move touches the queue of commands. -/
theorem everyCommandAnswersNextState : Obligations.EveryCommandAnswersNextState := by
  unfold Obligations.EveryCommandAnswersNextState
  intro c s
  obtain ⟨t, ht, src, -, hmoves⟩ := State.exec_steps c s
  exact ⟨t, ht, hmoves.keep (P := fun u => u.pending = s.pending) (fun _ _ hmove hu => hmove.pending.trans hu) rfl⟩

/-- Settles O54: each move keeps the shape of the records while reception fits, and reception itself. -/
theorem recordsStayFit : Obligations.RecordsStayFit := by
  unfold Obligations.RecordsStayFit
  intro s t hrecords hreception h
  obtain ⟨rest, u, due, ⟨src, -, hmoves⟩, rfl⟩ := State.step_steps h
  have hboth : u.RecordsFit ∧ u.ReceptionFits :=
    hmoves.keep (P := fun v => v.RecordsFit ∧ v.ReceptionFits)
      (fun _ _ hmove hv => ⟨hmove.recordsFit hreception hv.1, hmove.receptionFits hv.2⟩) ⟨hrecords, hreception⟩
  exact hboth

/-- Settles O55: each move keeps the counts and each of the two lists by itself. -/
theorem countsAndListsStayFit : Obligations.CountsAndListsStayFit := by
  unfold Obligations.CountsAndListsStayFit
  intro s t h
  exact ⟨State.step_keeps h (fun _ _ => id) fun _ _ _ _ hmove => hmove.countsAgree,
    State.step_keeps h (fun _ _ => id) fun _ _ _ _ hmove => hmove.publishListFits,
    State.step_keeps h (fun _ _ => id) fun _ _ _ _ hmove => hmove.controlListFits⟩

/-- Settles O57: each move keeps the station timers, the line and the Scheduler's work within their states. -/
theorem stationWorkStaysFit : Obligations.StationWorkStaysFit := by
  unfold Obligations.StationWorkStaysFit
  intro s t h
  exact ⟨State.step_keeps h (fun _ _ => id) fun _ _ _ _ hmove => hmove.timersFit,
    State.step_keeps h (fun _ _ => id) fun _ _ _ _ hmove => hmove.lineFits,
    State.step_keeps h (fun _ _ => id) fun _ _ _ _ hmove => hmove.workFits⟩

/-- Settles O58: each move keeps `State.NamesHold`, with the source of the frame being applied among the known. -/
theorem namesStayKnown : Obligations.NamesStayKnown := by
  unfold Obligations.NamesStayKnown
  intro s t hnames hroster hrecords hreception h
  obtain ⟨rest, u, due, ⟨src, hhears, hmoves⟩, rfl⟩ := State.step_steps h
  obtain ⟨htable, happlying⟩ := (State.namesKnown_iff s).mp hnames
  have hstart : State.NamesHold src { s with pending := rest } :=
    { records := hrecords, reception := hreception, roster := hroster, table := htable, applying := happlying
      source := fun y hy => by
        obtain ⟨a, ha, rfl, htaken⟩ := hhears y hy hreception
        exact happlying a ha htaken }
  have hend : State.NamesHold src u := hmoves.keep (fun _ _ hmove => hmove.namesHold hreception) hstart
  exact ⟨(State.namesKnown_iff u).mpr ⟨hend.table, hend.applying⟩, hend.roster⟩

end Sys2Proof.Machine
end

section
/-! SUPPORT. A step and a millisecond (O1, O3). -/

namespace Sys2Proof.Machine

/-- Settles O1: `step` reads the queue of commands and hands its head to `exec`. -/
theorem stepTakesFrontCommand : Obligations.StepTakesFrontCommand := fun _ _ _ => rfl

theorem step_of_idle {s : State} (h : s.pending = []) : step s = .next s.tick := by
  rw [step, h]

theorem State.tick_frozen {s : State} (h : s.station = .offline ∨ s.station = .clashed) : s.tick = s := if_pos h

theorem State.tick_running {s : State} (h : s.station ≠ .offline) (h' : s.station ≠ .clashed) :
    s.tick = { s.elapsed with pending := s.elapsed.dueTimers } :=
  if_neg (not_or_intro h h')

theorem mem_dueAt {t : Option Nat} {limit : Nat} {c d : Instr} : d ∈ dueAt t limit c ↔ d = c ∧ t = some limit := by
  unfold dueAt
  split <;> simp_all

/-- The commands queued are those of the timers that stand at their limits. -/
theorem State.mem_dueTimers (s : State) (c : Instr) :
    c ∈ s.dueTimers ↔
      (∃ p, c = .claimWindowExpiry p ∧ (s.pt p).claimWindow = some s.period) ∨
      (∃ p, c = .refreshTimerExpiry p ∧ (s.pt p).refreshTimer = some s.period) ∨
      (∃ p, c = .staleTimerExpiry p ∧ (s.pt p).staleTimer = some (3 * s.period)) ∨
      (∃ p, c = .contenderTimerExpiry p ∧ (s.pt p).contenderTimer = some (3 * s.period)) ∨
      (c = .listenTimerExpiry ∧ s.ctrl.listenTimer = some (3 * s.period)) ∨
      (c = .presenceTimerExpiry ∧ s.ctrl.presenceTimer = some s.period) ∨
      (c = .leaseExpiry ∧ s.ctrl.leaseTimer = some s.ctrl.config.leaseLimit) ∨
      (∃ x, c = .silenceTimer2P x ∧ (s.peer x).silence = some (2 * s.period)) ∨
      ∃ x, c = .silenceTimer5P x ∧ (s.peer x).silence = some (5 * s.period) := by
  simp only [State.dueTimers, List.mem_append, List.mem_flatMap, mem_dueAt, allPoints, List.mem_finRange, true_and,
    exists_or, or_assoc]

/-- Settles O3: the timers advance in `State.elapsed`, and `State.mem_dueTimers` says whose commands are queued. -/
theorem idleStepIsAMillisecond : Obligations.IdleStepIsAMillisecond := by
  unfold Obligations.IdleStepIsAMillisecond
  intro s hidle
  rw [step_of_idle hidle]
  refine ⟨fun h => by rw [State.tick_frozen h], fun hoff hclashed => ⟨_, rfl, ?_⟩⟩
  rw [State.tick_running hoff hclashed]
  exact ⟨rfl, rfl, s.elapsed_pt, s.elapsed_peer, s.elapsed.mem_dueTimers⟩

end Sys2Proof.Machine
end

section
/-! SUPPORT. Reset (O4, O6). -/

namespace Sys2Proof.Machine

/-- Settles O4: the part is cleared field by field; CSn and the straps stay as they are until the release. -/
theorem resetClearsThePart : Obligations.ResetClearsThePart := by
  unfold Obligations.ResetClearsThePart
  intro s address rate cleared
  exact ⟨s.pins.csnHigh, s.straps, rfl, rfl⟩

namespace State.Blank

variable {t : State}

theorem recordsFit (h : t.Blank) : t.RecordsFit := by
  intro p
  rw [h.points p]
  rfl

theorem receptionFits (h : t.Blank) : t.ReceptionFits := by
  simp [State.ReceptionFits, h.rx]

theorem countOf_eq_zero (h : t.Blank) {st : PointState} (hst : st ≠ .vacant) : t.countOf st = 0 := by
  refine List.countP_eq_zero.mpr fun p _ => ?_
  rw [h.points p]
  simpa using hst.symm

theorem countsAgree (h : t.Blank) : t.CountsAgree := by
  simp [State.CountsAgree, h.heldCount, h.claimingCount, h.countOf_eq_zero]

theorem publishListFits (h : t.Blank) : t.PublishListFits := by
  simp [State.PublishListFits, h.publish]

theorem controlListFits (h : t.Blank) : t.ControlListFits := by
  simp [State.ControlListFits, h.control]

theorem rosterFits (h : t.Blank) : t.RosterFits := by
  intro x
  rw [h.roster x]
  exact ⟨rfl, fun _ => rfl⟩

theorem namesKnown (h : t.Blank) : t.NamesKnown := by
  refine ⟨fun p => ?_, fun a ha => ?_⟩
  · rw [h.points p]
    exact ⟨rfl, rfl, rfl⟩
  · simp [h.rx] at ha

theorem timersFit (h : t.Blank) : t.TimersFit := by
  simp [State.TimersFit, h.listenTimer, h.presenceTimer, h.leaseTimer, h.freshStart, State.station, h.offline]

theorem lineFits (h : t.Blank) : t.LineFits := by
  simp [State.LineFits, Scheduler.flying, h.line, h.ladder, h.frame, State.station, h.offline]

theorem workFits (h : t.Blank) : t.WorkFits := by
  simp [State.WorkFits, h.control, h.publish, h.frame]

end State.Blank

/-- No event is posted and no command has been received. -/
theorem State.queues_fit_of_empty {s : State} (hevents : s.events = {}) (hhost : s.host = {}) (hrx : s.rx = {})
    (hoctets : s.line.octets = []) : s.events.Fits ∧ s.QueuesFit ∧ s.ConditionFits := by
  refine ⟨?_, ?_, ?_⟩
  · simp [hevents, EventQueue.Fits]
  · simp [State.QueuesFit, hhost, hrx, hoctets]
  · simp [State.ConditionFits, hhost]

/-- Settles O6: before and after the release the part is blank, and its queues are empty. -/
theorem resetStateHasTheInvariants : Obligations.ResetStateHasTheInvariants := by
  unfold Obligations.ResetStateHasTheInvariants
  intro s hs
  have hboth : s.Blank ∧ s.events.Fits ∧ s.QueuesFit ∧ s.ConditionFits := by
    rcases hs with rfl | ⟨address, rate, hs⟩
    · exact ⟨State.reset_blank, State.queues_fit_of_empty rfl rfl rfl rfl⟩
    · cases hs
      exact ⟨State.reset.released_blank address rate, State.queues_fit_of_empty rfl rfl rfl rfl⟩
  obtain ⟨h, hevents, hqueues, hcondition⟩ := hboth
  exact ⟨h.recordsFit, h.receptionFits, h.countsAgree, h.publishListFits, h.controlListFits, hevents, hqueues,
    h.rosterFits, h.namesKnown, h.timersFit, h.lineFits, hcondition, h.workFits⟩

end Sys2Proof.Machine
end

section
/-! SUPPORT. LEAVE from LISTENING and CLASHED, WRITE POINT, RECALL POINT and the subscriptions (O18, O21, O24, O25). -/

namespace Sys2Proof.Machine

/-- Settles O18: LEAVE's item is the end of the session. -/
theorem leaveEndsTheSession : Obligations.LeaveEndsTheSession := by
  unfold Obligations.LeaveEndsTheSession
  intro s q rest hr hst
  have hi : leaveItem q.params (s.dequeued rest) = ((s.dequeued rest).endSession .host).accept := by
    have hstation : (s.dequeued rest).station = s.station := rfl
    rcases hst with h | h <;> simp only [leaveItem, hstation, h]
  have he : exec .leave s = .next (((s.dequeued rest).endSession .host).answered q rest .ok []) :=
    congrArg Host.Outcome.next (State.taken_ordinary hr hi rfl rfl)
  exact he

/-! ### WRITE POINT -/

/-- The checks of R55 in their order. -/
theorem writePointItem_eq (s : State) (p : PointId) (octets : List Octet) :
    writePointItem (pointOctet p :: octets) s =
      if (s.pt p).state ≠ .held then s.refuse .notHolder
      else if (s.pt p).length ≠ some octets.length then s.refuse .badLength
      else ((s.setPt p ((s.pt p).written octets (s.pt p).nextGeneration)).appendPublish p).accept
        (octets16 (s.pt p).nextGeneration) := rfl

/-- Settles O21: each check of R55 refuses through `State.taken_exception`; past them the value is replaced. -/
theorem writePointPublishesAValue : Obligations.WritePointPublishesAValue := by
  unfold Obligations.WritePointPublishesAValue
  intro s q rest p octets hr hq
  have item := writePointItem_eq (s.dequeued rest) p octets
  rw [← hq] at item
  have refused {status : Status} (hi : writePointItem q.params (s.dequeued rest) = (s.dequeued rest).refuse status)
      (he : status.isException = true) : exec .writePoint s = .next (s.excepted q rest status) :=
    congrArg Host.Outcome.next (State.taken_exception hr (by decide) hi he)
  refine ⟨fun hstate => ?_, fun hstate hlength => ?_, fun hstate hlength old hold => ?_⟩
  · exact refused (item.trans (if_pos hstate)) rfl
  · exact refused (item.trans ((if_neg (not_not_intro hstate)).trans (if_pos hlength))) rfl
  · have hi := item.trans ((if_neg (not_not_intro hstate)).trans (if_neg (not_not_intro hlength)))
    have he : exec .writePoint s = .next _ := congrArg Host.Outcome.next (State.taken_ordinary hr hi rfl rfl)
    have hgeneration : (s.pt p).nextGeneration = old.generation + 1 := by
      rw [PointRecord.nextGeneration, hold]
      rfl
    have hpt : (s.dequeued rest).pt p = s.pt p := rfl
    rw [he, hpt, hgeneration, State.appendPublish, Scheduler.publishId_eq]
    rfl

/-! ### RECALL POINT -/

/-- The item of RECALL POINT by the holder that the record names (R73). -/
theorem recallPointItem_eq (s : State) (p : PointId) (more : List Octet) :
    recallPointItem (pointOctet p :: more) s =
      match (s.pt p).recallTarget with
      | none => s.refuse .badPoint
      | some x =>
        match s.tx.recall x p with
        | some t => { s with tx := t }.accept
        | none => s.refuse .listFull := rfl

theorem Request.recalls_iff {x : Addr} {p : PointId} {r : Request} :
    r.recalls x p = true ↔ ∃ ids, r = .recall x ids ∧ p ∈ ids := by
  cases r <;> simp [Request.recalls]

theorem Request.recallRoom_iff {x : Addr} {r : Request} :
    r.recallRoom x = true ↔ ∃ ids, r = .recall x ids ∧ ids.length < 8 := by
  cases r with
  | claim | assert | release | presence | farewell => simp [Request.recallRoom]
  | _ =>
    rename_i y ids
    -- RECALL, the one kind left.
    simp only [Request.recallRoom, Bool.and_eq_true, decide_eq_true_eq, Request.recall.injEq]
    exact ⟨fun ⟨hy, hids⟩ => ⟨ids, ⟨hy, rfl⟩, hids⟩, fun ⟨_, ⟨hy, hids⟩, hlength⟩ => ⟨hy, hids ▸ hlength⟩⟩

theorem mergeRecall_of_front {x : Addr} {p : PointId} {front back : List Request} {ids : List PointId}
    (hfront : ∀ r ∈ front, ¬ r.recallRoom x = true) (hids : ids.length < 8) :
    mergeRecall x p (front ++ Request.recall x ids :: back) = some (front ++ .recall x (ids ++ [p]) :: back) := by
  induction front with
  | nil => exact if_pos (Request.recallRoom_iff.mpr ⟨ids, rfl, hids⟩)
  | cons r front ih =>
    have hrest := ih fun r' hr' => hfront r' (.tail _ hr')
    rw [List.cons_append, mergeRecall, if_neg (hfront r (.head _)), hrest]
    rfl

theorem mergeRecall_eq_none {x : Addr} {p : PointId} {l : List Request} (h : ∀ r ∈ l, ¬ r.recallRoom x = true) :
    mergeRecall x p l = none := by
  induction l with
  | nil => rfl
  | cons r rest ih =>
    rw [mergeRecall, if_neg (h r (.head _)), ih fun r' hr' => h r' (.tail _ hr')]
    rfl

theorem Scheduler.any_recalls_iff (t : Scheduler) (x : Addr) (p : PointId) :
    t.control.any (Request.recalls x p) = true ↔ ∃ ids, Request.recall x ids ∈ t.control ∧ p ∈ ids := by
  simp only [List.any_eq_true, Request.recalls_iff]
  constructor
  · rintro ⟨r, hr, ids, rfl, hp⟩
    exact ⟨ids, hr, hp⟩
  · rintro ⟨ids, hr, hp⟩
    exact ⟨_, hr, ids, rfl, hp⟩

/-- Settles O24: `Scheduler.recall` case by case; a new RECALL is no repeat, for none names the point. -/
theorem recallPointMergesRequests : Obligations.RecallPointMergesRequests := by
  unfold Obligations.RecallPointMergesRequests
  intro s q rest p more hr hq
  have item := recallPointItem_eq (s.dequeued rest) p more
  rw [← hq] at item
  have hpt : (s.dequeued rest).pt p = s.pt p := rfl
  have refused {status : Status} (hi : recallPointItem q.params (s.dequeued rest) = (s.dequeued rest).refuse status)
      (he : status.isException = true) : exec .recallPoint s = .next (s.excepted q rest status) :=
    congrArg Host.Outcome.next (State.taken_exception hr (by decide) hi he)
  constructor
  · intro hstate
    have htarget : (s.pt p).recallTarget = none := by
      rcases hstate with h | h | h <;> simp only [PointRecord.recallTarget, h]
    exact refused (by rw [item, hpt, htarget]) rfl
  · intro x hstate howner named roomy
    have htarget : (s.pt p).recallTarget = some x := by
      rcases hstate with h | h | h <;> simp only [PointRecord.recallTarget, h, howner]
    have item : recallPointItem q.params (s.dequeued rest) =
        match s.tx.recall x p with
        | some t => { s.dequeued rest with tx := t }.accept
        | none => (s.dequeued rest).refuse .listFull := by
      rw [item, hpt, htarget]
      rfl
    have accepted {t : Scheduler} (ht : s.tx.recall x p = some t) :
        exec .recallPoint s = .next (State.answered { s with tx := t } q rest .ok []) := by
      rw [ht] at item
      exact congrArg Host.Outcome.next (State.taken_ordinary hr (u := { s.dequeued rest with tx := t }) item rfl rfl)
    have hnamed : s.tx.control.any (Request.recalls x p) = true ↔ named := s.tx.any_recalls_iff x p
    have hroomy (r : Request) : ¬ r.recallRoom x = true ↔ ¬ roomy r := not_congr Request.recallRoom_iff
    refine ⟨fun h => ?_, fun h front ids back hcontrol hfront hids => accepted ?_,
      fun h hfull hroom => accepted ?_, fun h hfull hroom => refused ?_ rfl⟩
    · exact accepted (if_pos (hnamed.mpr h))
    · have hmerge : mergeRecall x p s.tx.control = some (front ++ .recall x (ids ++ [p]) :: back) :=
        hcontrol ▸ mergeRecall_of_front (fun r hm => (hroomy r).mpr (hfront r hm)) hids
      rw [Scheduler.recall, if_neg (mt hnamed.mp h), hmerge]
    · have hnone := mergeRecall_eq_none (p := p) fun r hm => (hroomy r).mpr (hfull r hm)
      have hnew : Request.recall x [p] ∉ s.tx.control := fun hm => h ⟨[p], hm, List.mem_singleton_self p⟩
      rw [Scheduler.recall, if_neg (mt hnamed.mp h), hnone]
      dsimp only
      rw [if_neg (s.tx.not_full_iff.mpr hroom), Scheduler.append, if_neg hnew]
    · have hnone := mergeRecall_eq_none (p := p) fun r hm => (hroomy r).mpr (hfull r hm)
      have hlist : s.tx.recall x p = none := by
        rw [Scheduler.recall, if_neg (mt hnamed.mp h), hnone]
        exact if_pos (s.tx.full_iff.mpr hroom)
      rw [item, hlist]

/-! ### SUBSCRIBE and UNSUBSCRIBE -/

theorem exec_subscription (on : Bool) (s : State) :
    exec (HostCommand.rowOf (some (if on then .subscribe else .unsubscribe))) s =
      .next (s.takeCommand (some (if on then .subscribe else .unsubscribe)) (subscriptionItem on)) := by
  cases on <;> rfl

/-- The item of a subscription by its range (R186). -/
theorem subscriptionItem_eq (on : Bool) (first hi lo : Octet) (s : State) :
    subscriptionItem on [first, hi, lo] s =
      if (joinOctets hi lo).toNat = 0 then s.accept
      else if 256 < first.toNat + (joinOctets hi lo).toNat then s.refuse .badPoint
      else (s.setSubscribed first.toNat (joinOctets hi lo).toNat on).accept := rfl

theorem State.setSubscribed_pt (s : State) (first count : Nat) (flag : Bool) (p : PointId) :
    (s.setSubscribed first count flag).pt p =
      if first ≤ p.val ∧ p.val < first + count then { s.pt p with subscribed := flag } else s.pt p := by
  simp [State.setSubscribed, State.pt]

/-- A count of 0 names no point. -/
theorem State.setSubscribed_zero (s : State) (first : Nat) (flag : Bool) : s.setSubscribed first 0 flag = s := by
  have hpoints : (s.setSubscribed first 0 flag).points = s.points := by
    refine Vector.ext fun i hi => ?_
    have hno : ¬ (first ≤ i ∧ i < first) := by omega
    simp [State.setSubscribed, hno]
  have hframe : s.setSubscribed first 0 flag = { s with points := (s.setSubscribed first 0 flag).points } := rfl
  rw [hframe, hpoints]

/-- Settles O25: a range within the points sets the flags by `State.setSubscribed`; a longer one is refused. -/
theorem subscriptionSetsARange : Obligations.SubscriptionSetsARange := by
  unfold Obligations.SubscriptionSetsARange
  intro s q rest first hi lo on c count hr hq
  have hcount : (joinOctets hi lo).toNat = count := by
    rw [joinOctets_toNat, Nat.mul_comm]
  have item := subscriptionItem_eq on first hi lo (s.dequeued rest)
  rw [← hq, hcount] at item
  rw [exec_subscription]
  refine ⟨fun hrange => ⟨s.setSubscribed first.toNat count on, ?_, rfl, s.setSubscribed_pt _ _ _⟩, fun hrange => ?_⟩
  · have hi : subscriptionItem on q.params (s.dequeued rest) =
        ((s.dequeued rest).setSubscribed first.toNat count on).accept := by
      rw [item]
      split
      · rename_i hzero
        rw [hzero, State.setSubscribed_zero]
      · exact if_neg (by omega)
    exact congrArg Host.Outcome.next
      (State.taken_ordinary hr (u := (s.dequeued rest).setSubscribed first.toNat count on) hi rfl rfl)
  · have hi : subscriptionItem on q.params (s.dequeued rest) = (s.dequeued rest).refuse .badPoint := by
      have := first.isLt
      rw [item, if_neg (by omega), if_pos hrange]
    exact congrArg Host.Outcome.next (State.taken_exception hr (by cases on <;> decide) hi rfl)

end Sys2Proof.Machine
end

section
/-! SUPPORT. The end of the station's own frame (O30). -/

namespace Sys2Proof.Machine

/-- The record of a point whose PUBLISH has gone out (R15, R164). -/
def PointRecord.refreshBegun (r : PointRecord) : PointRecord := { r with refreshTimer := some 0 }

theorem State.restartRefresh_frame (s : State) (p : PointId) :
    s.restartRefresh p = { s with points := (s.restartRefresh p).points } := by
  unfold State.restartRefresh
  dsimp only
  split <;> rfl

theorem State.restartRefresh_pt (s : State) (p q : PointId) :
    (s.restartRefresh p).pt q = if p = q ∧ (s.pt q).state = .held then (s.pt q).refreshBegun else s.pt q := by
  unfold State.restartRefresh
  dsimp only
  by_cases hq : q = p
  · subst hq
    split
    · rename_i h
      simp [h, PointRecord.refreshBegun]
    · rename_i h
      simp [h]
  · have hp : p ≠ q := Ne.symm hq
    split
    · simp [State.pt_setPt_other s _ hq, hp]
    · simp [hp]

/-- The refresh timers of the points of a PUBLISH that are still HELD start again; a point may be named twice. -/
theorem State.foldl_restartRefresh (records : List PublishRecord) (s : State) :
    (records.foldl (fun t r => t.restartRefresh r.point) s =
      { s with points := (records.foldl (fun t r => t.restartRefresh r.point) s).points }) ∧
    ∀ p, (records.foldl (fun t r => t.restartRefresh r.point) s).pt p =
      if (∃ r ∈ records, r.point = p) ∧ (s.pt p).state = .held then (s.pt p).refreshBegun else s.pt p := by
  induction records generalizing s with
  | nil => exact ⟨rfl, fun p => by simp⟩
  | cons r records ih =>
    rw [List.foldl_cons]
    obtain ⟨hframe, hpt⟩ := ih (s.restartRefresh r.point)
    refine ⟨hframe.trans ?_, fun p => (hpt p).trans ?_⟩
    · rw [s.restartRefresh_frame r.point]
    · rw [State.restartRefresh_pt]
      by_cases hheld : (s.pt p).state = .held
      · by_cases hr : r.point = p
        · simp [hheld, hr, PointRecord.refreshBegun]
        · simp [hheld, hr]
      · simp [hheld]

theorem State.ownFrameEnds_unread {s : State} {b : BuiltFrame} (hf : s.tx.frame = some b)
    (h : b.readBack < b.frame.encode.length) : s.ownFrameEnds = s := by
  have hread : b.readWhole = false := decide_eq_false (Nat.not_le_of_lt h)
  unfold State.ownFrameEnds
  split
  · rename_i hb
    cases hf.symm.trans hb
    split
    · simp [hread]
    all_goals rfl
  · rfl

/-- The frame is read back whole and the line has been idle for 2 ct. -/
theorem State.ownFrameEnds_whole {s : State} {b : BuiltFrame} {slot : Nat} (hl : s.line.state = .sending)
    (hf : s.tx.frame = some b) (hp : b.place = .inFlight slot) (hread : b.frame.encode.length ≤ b.readBack)
    (hquiet : s.line.gap.isSome = true) :
    s.ownFrameEnds = ({ s with tx := { s.tx with frame := none } }.closeFrame s.own).endReport b.frame.body := by
  have hwhole : b.readWhole = true := decide_eq_true hread
  simp only [State.ownFrameEnds, hl, hf, hp, hwhole, Line.quiet, hquiet, and_self, if_true]

theorem State.endReport_publish {s : State} (records : List PublishRecord) (h : s.takesFrames = true) :
    s.endReport (.publish records) = records.foldl (fun t r => t.restartRefresh r.point) s := if_pos h

theorem State.endReport_publish_idle {s : State} (records : List PublishRecord) (h : ¬ s.takesFrames = true) :
    s.endReport (.publish records) = s := if_neg h

theorem State.endReport_claim {s : State} {p : PointId} (h : s.takesFrames = true) (hc : (s.pt p).state = .claiming)
    (hp : (s.pt p).phase = some .sending) :
    s.endReport (.claim p) = s.setPt p { s.pt p with phase := some .window, claimWindow := some 0 } :=
  (if_pos h).trans (if_pos ⟨hc, hp⟩)

theorem State.endReport_claim_idle {s : State} {p : PointId}
    (h : ¬ (s.takesFrames = true ∧ (s.pt p).state = .claiming ∧ (s.pt p).phase = some .sending)) :
    s.endReport (.claim p) = s := by
  by_cases ht : s.takesFrames = true
  · exact (if_pos ht).trans (if_neg fun hc => h ⟨ht, hc⟩)
  · exact if_neg ht

/-- Settles O30: the line is closed as `State.closeFrame` says; the report then goes by the frame's body. -/
theorem ownFrameEnds : Obligations.OwnFrameEnds := by
  unfold Obligations.OwnFrameEnds
  intro s b slot hl hf hp listens t
  rw [exec_frameEndedWithoutCollision]
  constructor
  · rintro (h | h)
    · rw [State.ownFrameEnds_unread hf h]
    · rw [State.ownFrameEnds_busy h]
  · intro hread hquiet
    have hends : s.ownFrameEnds = t.endReport b.frame.body := State.ownFrameEnds_whole hl hf hp hread hquiet
    have hlistens : t.takesFrames = true ↔ listens := s.takesFrames_iff
    rw [hends]
    refine ⟨fun st held n u hb => ?_, fun st held n u hb => ?_, fun records hb => ⟨fun h => ?_, fun h => ?_⟩,
      fun p hb => ?_, fun hb => ?_, fun hb => ?_⟩
    · rw [hb]
      rfl
    · rw [hb]
      rfl
    · rw [hb, State.endReport_publish records (hlistens.mpr h)]
      obtain ⟨hframe, hpt⟩ := t.foldl_restartRefresh records
      exact ⟨_, rfl, hframe, hpt⟩
    · rw [hb, State.endReport_publish_idle records (mt hlistens.mp h)]
    · rw [hb]
      refine ⟨fun h => ?_, fun h => ?_⟩
      · obtain ⟨hlistening, hclaiming, hsending⟩ := h
        exact congrArg Host.Outcome.next (State.endReport_claim (hlistens.mpr hlistening) hclaiming hsending)
      · exact congrArg Host.Outcome.next
          (State.endReport_claim_idle fun ⟨hlistening, hclaim⟩ => h ⟨hlistens.mp hlistening, hclaim⟩)
    · rcases hb with ⟨p, k, hb⟩ | ⟨p, hb⟩ | ⟨x, ids, hb⟩ <;> rw [hb] <;> rfl
    · rw [hb]
      exact congrArg Host.Outcome.next (State.endSession_eq_offlineAfter t .leaveDone)

end Sys2Proof.Machine
end

section
/-! SUPPORT. What the slots of ACTIVE and DETACHED send (O34, O35). -/

namespace Sys2Proof

/-- The place of a kind in the order of R160, the urgent kinds first. -/
def FrameKind.order : FrameKind → Nat
  | .assert => 0
  | .claim => 1
  | .release => 2
  | .recall => 3
  | .presence => 4
  | .farewell => 5
  | .publish => 6

namespace Machine

/-! ### The request a slot chooses -/

theorem Request.kind_eq_assert {r : Request} : r.kind = .assert ↔ ∃ p, r = .assert p := by
  cases r <;> simp [Request.kind]

theorem Request.kind_eq_claim {r : Request} : r.kind = .claim ↔ ∃ p, r = .claim p := by
  cases r <;> simp [Request.kind]

/-- The first request of a kind is the oldest. -/
theorem Scheduler.oldest_of_front {t : Scheduler} {front back : List Request} {r : Request}
    (h : t.control = front ++ r :: back) (hfront : ∀ w ∈ front, w.kind ≠ r.kind) : t.oldest r.kind = some r := by
  have hnone : front.find? (fun w => decide (w.kind = r.kind)) = none :=
    List.find?_eq_none.mpr fun w hw => by simpa using hfront w hw
  simp [Scheduler.oldest, h, List.find?_append, hnone]

theorem Scheduler.oldest_eq_none {t : Scheduler} {kind : FrameKind} (h : ∀ w ∈ t.control, w.kind ≠ kind) :
    t.oldest kind = none :=
  List.find?_eq_none.mpr fun w hw => by simpa using h w hw

/-- The kinds that a ranked slot offers, split at the kind of a request: those before come earlier in the order. -/
theorem rankedKinds_split {r : Request} (h : r ≠ .farewell) :
    ∃ before after, [FrameKind.assert, .claim, .release, .recall, .presence] = before ++ r.kind :: after ∧
      ∀ kind ∈ before, kind.order < r.kind.order := by
  cases r with
  | assert p => exact ⟨[], [.claim, .release, .recall, .presence], rfl, by simp⟩
  | claim p => exact ⟨[.assert], [.release, .recall, .presence], rfl, by simp [Request.kind, FrameKind.order]⟩
  | release p => exact ⟨[.assert, .claim], [.recall, .presence], rfl, by simp [Request.kind, FrameKind.order]⟩
  | presence => exact ⟨[.assert, .claim, .release, .recall], [], rfl, by simp [Request.kind, FrameKind.order]⟩
  | farewell => exact absurd rfl h
  | _ =>
    -- RECALL, the one kind left.
    exact ⟨[.assert, .claim, .release], [.presence], rfl, by simp [Request.kind, FrameKind.order]⟩

/-- The oldest request of the first kind that waits is chosen (R160). -/
theorem Scheduler.rankedRequest_of_first {t : Scheduler} {front back : List Request} {r : Request}
    (h : t.control = front ++ r :: back) (hr : r ≠ .farewell) (hfront : ∀ w ∈ front, r.kind.order < w.kind.order)
    (hback : ∀ w ∈ back, r.kind.order ≤ w.kind.order) : t.rankedRequest = some r := by
  obtain ⟨before, after, hkinds, hbefore⟩ := rankedKinds_split hr
  have hleast (w : Request) (hw : w ∈ t.control) : r.kind.order ≤ w.kind.order := by
    rw [h, List.mem_append, List.mem_cons] at hw
    rcases hw with hw | rfl | hw
    · exact (hfront w hw).le
    · exact le_rfl
    · exact hback w hw
  have hnone : before.findSome? t.oldest = none :=
    List.findSome?_eq_none_iff.mpr fun kind hkind => Scheduler.oldest_eq_none fun w hw he =>
      absurd (hleast w hw) (Nat.not_le_of_lt (he ▸ hbefore kind hkind))
  have hfirst : t.oldest r.kind = some r :=
    Scheduler.oldest_of_front h fun w hw he => absurd (hfront w hw) (by simp [he])
  rw [Scheduler.rankedRequest, hkinds, List.findSome?_append, hnone, Option.none_or, List.findSome?_cons, hfirst]

/-- With nothing but FAREWELLs there is nothing to choose (R160). -/
theorem Scheduler.rankedRequest_eq_none {t : Scheduler} (h : ∀ r ∈ t.control, r = .farewell) :
    t.rankedRequest = none := by
  refine List.findSome?_eq_none_iff.mpr fun kind hkind => Scheduler.oldest_eq_none fun w hw he => ?_
  rw [h w hw] at he
  simp [← he, Request.kind] at hkind

theorem Scheduler.urgentRequest_eq (t : Scheduler) :
    t.urgentRequest = (t.oldest .assert).or (t.oldest .claim) := by
  simp only [Scheduler.urgentRequest, List.findSome?_cons, List.findSome?_nil]
  cases t.oldest .assert <;> cases t.oldest .claim <;> rfl

/-! ### The built frame -/

theorem Scheduler.retryFrame_some {t : Scheduler} {b : BuiltFrame} {urgent : Bool} (hf : t.frame = some b)
    (hp : b.place = .retry urgent) : t.retryFrame = some (b, urgent) := by
  simp only [Scheduler.retryFrame, hf, hp]

theorem Scheduler.retryFrame_none {t : Scheduler} (hf : t.frame = none) : t.retryFrame = none := by
  simp only [Scheduler.retryFrame, hf]

theorem Body.isFreshPresence_iff {b : Body} :
    Body.isFreshPresence b = true ↔ ∃ st held n u, b = .presence st true held n u := by
  cases b <;> simp [Body.isFreshPresence]

theorem Body.isUrgent_iff {b : Body} : Body.isUrgent b = true ↔ (∃ p k, b = .assert p k) ∨ ∃ p, b = .claim p := by
  cases b <;> simp [Body.isUrgent]

/-! ### Sending -/

/-- The ladder stands where a slot has left it; nothing else differs. -/
def State.laddered (s : State) (l : Ladder) : State := { s with line := { s.line with ladder := some l } }

theorem State.laddered_send (s : State) (l : Ladder) (b : BuiltFrame) (slot : Nat) :
    (s.laddered l).send b slot = s.sendingIn slot b := rfl

/-- The request leaves the list, and its frame, new, goes out in the slot (R158, R162). -/
theorem State.laddered_sendClaim (s : State) (l : Ladder) (p : PointId) (slot : Nat) :
    (s.laddered l).sendRequest (.claim p) slot = State.sendingNewIn
      { (if (s.pt p).state = .claiming ∧ (s.pt p).phase = some .requested then
          s.setPt p { s.pt p with phase := some .sending } else s) with
        tx := { s.tx with control := s.tx.control.filter (· ≠ .claim p) } } slot (.claim p) := by
  have hpt (tx : Scheduler) : State.pt { s.laddered l with tx := tx } p = s.pt p := rfl
  simp only [State.sendRequest, State.sendClaim, State.claimBuilt, hpt]
  split <;> rfl

/-- The records of a PUBLISH are those of its points (R59). -/
theorem State.map_point_filterMap_recordOf {s : State} {ids : List PointId}
    (h : ∀ p ∈ ids, (s.pt p).value.isSome = true) : (ids.filterMap s.recordOf).map PublishRecord.point = ids := by
  induction ids with
  | nil => rfl
  | cons p ids ih =>
    obtain ⟨v, hv⟩ := Option.isSome_iff_exists.mp (h p (.head _))
    have hrecord : s.recordOf p = some { point := p, generation := v.generation, octets := v.octets } := by
      rw [State.recordOf, hv]
      rfl
    rw [List.filterMap_cons_some hrecord, List.map_cons, ih fun q hq => h q (.tail _ hq)]

theorem State.value_of_mem_recordOf {s : State} {ids : List PointId} {r : PublishRecord}
    (h : r ∈ ids.filterMap s.recordOf) :
    (s.pt r.point).value = some { octets := r.octets, generation := r.generation } := by
  obtain ⟨p, -, hr⟩ := List.mem_filterMap.mp h
  obtain ⟨v, hv, rfl⟩ := Option.map_eq_some_iff.mp hr
  exact hv

/-! ### The urgent slot -/

theorem exec_urgentSlot (s : State) : exec .urgentSlot s = .next s.urgentSlot := rfl

theorem State.urgentOffer_passes {s : State}
    (h : s.station = .offline ∨ s.station = .listening ∨ s.station = .leaving ∨ s.station = .clashed) :
    s.urgentOffer = s := by
  rcases h with h | h | h | h <;> simp only [State.urgentOffer, h]

theorem State.urgentOffer_running {s : State} (h : s.station = .active ∨ s.station = .detached) :
    s.urgentOffer = if s.ctrl.freshStart then s else s.urgentChoice := by
  rcases h with h | h <;> simp only [State.urgentOffer, h]

theorem State.urgentChoice_retry {s : State} {b : BuiltFrame} {urgent : Bool} (hf : s.tx.frame = some b)
    (hp : b.place = .retry urgent) :
    s.urgentChoice = if Body.isUrgent b.frame.body ∧ urgent = false then s.send b 0 else s := by
  simp only [State.urgentChoice, Scheduler.retryFrame_some hf hp]

theorem State.urgentChoice_request {s : State} (hf : s.tx.frame = none) {r : Request}
    (hr : s.tx.urgentRequest = some r) : s.urgentChoice = s.sendRequest r 0 := by
  simp only [State.urgentChoice, Scheduler.retryFrame_none hf, hr]

theorem State.urgentChoice_idle {s : State} (hf : s.tx.frame = none) (hr : s.tx.urgentRequest = none) :
    s.urgentChoice = s := by
  simp only [State.urgentChoice, Scheduler.retryFrame_none hf, hr]

/-- A slot of the round that runs, or of the next, begins on an idle line. -/
theorem State.slotBegins_laddered {s : State} {l : Ladder} (hi : s.line.state = .idle) (hl : s.line.ladder = some l)
    (slot : Nat) (offer : State → State) :
    s.slotBegins slot offer =
      if l.offeredFrom ≤ (l.reach slot).round then offer (s.laddered (l.reach slot)) else s.laddered (l.reach slot) := by
  rw [State.slotBegins_idle hi hl]
  exact if_congr (by simp only [Ladder.offers, decide_eq_true_eq]; rfl) rfl rfl

/-- Settles O34: `State.urgentOffer` and `State.urgentChoice` case by case, on the ladder that has come to slot 0. -/
theorem urgentSlotChoice : Obligations.UrgentSlotChoice := by
  unfold Obligations.UrgentSlotChoice
  intro s l hi hl round quiet without claimBuilt
  have hround : (l.reach 0).round = round := if_congr (Nat.le_zero) rfl rfl
  have hladder : l.reach 0 = { round := round, next := 1, offeredFrom := l.offeredFrom } :=
    congrArg (fun r => ({ round := r, next := 1, offeredFrom := l.offeredFrom } : Ladder)) hround
  have hquiet : s.laddered (l.reach 0) = quiet := by rw [hladder]; rfl
  have hslot : s.urgentSlot = if l.offeredFrom ≤ round then State.urgentOffer quiet else quiet := by
    rw [State.urgentSlot, State.slotBegins_laddered hi hl, hround, hquiet]
  rw [exec_urgentSlot, hslot]
  refine ⟨fun h => ?_, fun ho hst => ?_⟩
  · rcases h with hlt | hst
    · rw [if_neg (Nat.not_le_of_lt hlt)]
    · rw [State.urgentOffer_passes (s := quiet) hst, ite_self]
  · rw [if_pos ho, State.urgentOffer_running (s := quiet) hst]
    refine ⟨fun hfresh => congrArg _ (if_pos hfresh), fun hfresh => ?_⟩
    rw [if_neg (show ¬ quiet.ctrl.freshStart = true by simpa using hfresh)]
    refine ⟨fun b urgent hf hp => ?_, fun hf => ⟨fun front p back hcontrol hfront k hk => ?_,
      fun front p back hcontrol hfront hnone => ?_, fun hnone => ?_⟩⟩
    · intro goes
      have hgoes : (Body.isUrgent b.frame.body = true ∧ urgent = false) ↔ goes := by
        rw [Body.isUrgent_iff]
        exact and_comm
      rw [State.urgentChoice_retry (s := quiet) hf hp]
      exact ⟨fun h => congrArg _ (if_pos (hgoes.mpr h)), fun h => congrArg _ (if_neg (mt hgoes.mp h))⟩
    · have hassert : s.tx.oldest .assert = some (.assert p) :=
        Scheduler.oldest_of_front hcontrol fun w hw he =>
          (Request.kind_eq_assert.mp he).elim fun q hq => hfront w hw q hq
      have hr : quiet.tx.urgentRequest = some (.assert p) := by
        rw [Scheduler.urgentRequest_eq]
        exact congrArg (Option.or · _) hassert
      have hlength : octetOf ((s.pt p).length.getD 0) = BitVec.ofNat 8 k := by
        rw [hk]
        rfl
      rw [State.urgentChoice_request (s := quiet) hf hr, ← hlength]
      rfl
    · have hassert : s.tx.oldest .assert = none :=
        Scheduler.oldest_eq_none fun w hw he => (Request.kind_eq_assert.mp he).elim fun q hq => hnone w hw q hq
      have hclaim : s.tx.oldest .claim = some (.claim p) :=
        Scheduler.oldest_of_front hcontrol fun w hw he =>
          (Request.kind_eq_claim.mp he).elim fun q hq => hfront w hw q hq
      have hr : quiet.tx.urgentRequest = some (.claim p) := by
        show s.tx.urgentRequest = _
        rw [Scheduler.urgentRequest_eq, hassert, hclaim]
        rfl
      rw [State.urgentChoice_request (s := quiet) hf hr, ← hquiet]
      exact congrArg _ (s.laddered_sendClaim _ p 0)
    · have hassert : s.tx.oldest .assert = none :=
        Scheduler.oldest_eq_none fun w hw he =>
          (Request.kind_eq_assert.mp he).elim fun q hq => (hnone w hw q).1 hq
      have hclaim : s.tx.oldest .claim = none :=
        Scheduler.oldest_eq_none fun w hw he =>
          (Request.kind_eq_claim.mp he).elim fun q hq => (hnone w hw q).2 hq
      have hr : quiet.tx.urgentRequest = none := by
        show s.tx.urgentRequest = _
        rw [Scheduler.urgentRequest_eq, hassert, hclaim]
        rfl
      rw [State.urgentChoice_idle (s := quiet) hf hr]

/-! ### The ranked slot -/

theorem State.rankedOffer_running {s : State} (h : s.station = .active ∨ s.station = .detached) (slot : Nat) :
    State.rankedOffer slot s = if s.ctrl.freshStart then s.freshSlot slot else s.plainSlot slot := by
  rcases h with h | h <;> simp only [State.rankedOffer, h]

theorem State.freshSlot_retry {s : State} {b : BuiltFrame} {urgent : Bool} (hf : s.tx.frame = some b)
    (hp : b.place = .retry urgent) (slot : Nat) :
    s.freshSlot slot = if Body.isFreshPresence b.frame.body then s.send b slot else s := by
  simp only [State.freshSlot, Scheduler.retryFrame_some hf hp]

theorem State.freshSlot_presence {s : State} (hf : s.tx.frame = none) (slot : Nat) :
    s.freshSlot slot = s.sendPresence slot := by
  simp only [State.freshSlot, Scheduler.retryFrame_none hf]

theorem State.plainSlot_retry {s : State} {b : BuiltFrame} {urgent : Bool} (hf : s.tx.frame = some b)
    (hp : b.place = .retry urgent) (slot : Nat) : s.plainSlot slot = s.send b slot := by
  simp only [State.plainSlot, Scheduler.retryFrame_some hf hp]

theorem State.plainSlot_request {s : State} (hf : s.tx.frame = none) {r : Request}
    (hr : s.tx.rankedRequest = some r) (slot : Nat) : s.plainSlot slot = s.sendRequest r slot := by
  simp only [State.plainSlot, Scheduler.retryFrame_none hf, hr]

theorem State.plainSlot_publish {s : State} (hf : s.tx.frame = none) (hr : s.tx.rankedRequest = none) (slot : Nat) :
    s.plainSlot slot = if s.tx.publish = [] then s else s.sendPublish slot := by
  simp only [State.plainSlot, Scheduler.retryFrame_none hf, hr]

/-- Settles O35: `State.freshSlot` and `State.plainSlot` case by case, on the ladder that has come to the ranked slot. -/
theorem rankedSlotChoice : Obligations.RankedSlotChoice := by
  unfold Obligations.RankedSlotChoice
  intro s l hi hl hst slot round quiet order presence body reported without
  have hquiet : s.laddered (l.reach slot) = quiet := rfl
  have horder (r : Request) : order r = r.kind.order := by cases r <;> rfl
  have hslot : s.rankedSlot = if l.offeredFrom ≤ round then State.rankedOffer slot quiet else quiet :=
    State.slotBegins_laddered hi hl _ _
  rw [exec_rankedSlot, hslot]
  refine ⟨fun hlt => by rw [if_neg (Nat.not_le_of_lt hlt)], fun ho => ?_⟩
  rw [if_pos ho, State.rankedOffer_running (s := quiet) hst]
  have hmarked (h : s.ctrl.freshStart = true) :
      (if quiet.ctrl.freshStart then quiet.freshSlot slot else quiet.plainSlot slot) = quiet.freshSlot slot := if_pos h
  have hplain (h : s.ctrl.freshStart = false) :
      (if quiet.ctrl.freshStart then quiet.freshSlot slot else quiet.plainSlot slot) = quiet.plainSlot slot :=
    if_neg (show ¬ quiet.ctrl.freshStart = true by simpa using h)
  refine ⟨fun b urgent hf hp => ⟨fun h => ?_, fun h => ?_⟩, fun hf => ⟨fun h => ?_, fun h => ?_⟩⟩
  · rw [hplain h, State.plainSlot_retry (s := quiet) hf hp]
    rfl
  · intro fresh
    rw [hmarked h, State.freshSlot_retry (s := quiet) hf hp]
    have hfresh : Body.isFreshPresence b.frame.body = true ↔ fresh := Body.isFreshPresence_iff
    exact ⟨fun h => congrArg _ (if_pos (hfresh.mpr h)), fun h => congrArg _ (if_neg (mt hfresh.mp h))⟩
  · rw [hmarked h, State.freshSlot_presence (s := quiet) hf]
    rfl
  · rw [hplain h]
    refine ⟨fun front r back hcontrol hr hfront hback => ?_, fun hnone => ⟨fun hempty => ?_, fun hsome hvalues => ?_⟩⟩
    · simp only [horder] at hfront hback
      have hrequest : quiet.tx.rankedRequest = some r :=
        Scheduler.rankedRequest_of_first (t := s.tx) hcontrol hr hfront hback
      rw [State.plainSlot_request (s := quiet) hf hrequest]
      cases r with
      | claim p => exact congrArg _ (s.laddered_sendClaim _ p slot)
      | farewell => exact absurd rfl hr
      | _ => rfl
    · rw [State.plainSlot_publish (s := quiet) hf (Scheduler.rankedRequest_eq_none (t := s.tx) hnone)]
      exact congrArg _ (if_pos hempty)
    · rw [State.plainSlot_publish (s := quiet) hf (Scheduler.rankedRequest_eq_none (t := s.tx) hnone)]
      refine ⟨(s.tx.publish.take 4).filterMap s.recordOf, congrArg _ (if_neg hsome), ?_, fun r hr => ?_⟩
      · exact State.map_point_filterMap_recordOf fun p hp => hvalues p (List.mem_of_mem_take hp)
      · exact State.value_of_mem_recordOf hr

end Machine
end Sys2Proof
end

section
/-! SUPPORT. A holder at a free point, and the owner at its mirror (O40, O41). -/

namespace Sys2Proof.Machine

/-! ### A free point -/

/-- The new owner's news are posted in turn (R63, R67, R72). -/
theorem State.newOwner_eq (s : State) (p : PointId) (old : Option Addr) (y : Addr) (c : Carried) :
    s.newOwner p old y c =
      (s.setPt p ((s.pt p).mirrored y (some c.length) c.value)).telling p
        (.ownerChanged p old (some y) :: changedBy p c.value) := by
  simp only [State.newOwner, State.mirrorCarried, PointRecord.mirrorOf_eq_mirrored, State.offerPoint_eq_telling,
    State.postCarried_eq_telling, State.telling_telling, List.cons_append, List.nil_append]

theorem State.holderActs_vacant {s : State} {p : PointId} (h : (s.pt p).state = .vacant) (y : Addr) (c : Carried)
    (loss : ClaimLoss) (fromOwner : State → State) :
    s.holderActs p y c loss fromOwner = s.newOwner p none y c := by
  simp only [State.holderActs, h]

/-- The recorded claimant of a STALE point takes it over from its owner (R67). -/
theorem State.holderActs_claimant {s : State} {p : PointId} {x y : Addr} (h : (s.pt p).state = .stale)
    (ho : (s.pt p).owner = some x) (hxy : x ≠ y) (hc : (s.pt p).claimant = some y) (c : Carried) (loss : ClaimLoss)
    (fromOwner : State → State) : s.holderActs p y c loss fromOwner = s.newOwner p (some x) y c := by
  simp only [State.holderActs, h, ho, hxy, hc, if_false, and_self, if_true]

/-- Settles O40: a free point takes its holder by `State.newOwner`. -/
theorem holderFillsAFreePoint : Obligations.HolderFillsAFreePoint := by
  unfold Obligations.HolderFillsAFreePoint
  intro s f item rest p k value ht hh hfree old
  obtain ⟨fromOwner, he⟩ := exec_row_of_holds ht hh
  have hp : (s.itemTaken f rest).pt p = s.pt p := State.pt_itemTaken ..
  rw [he]
  rcases hfree with hv | ⟨hs, ho, hy, hc⟩
  · have hold : old = none := if_pos hv
    rw [State.holderActs_vacant (hp ▸ hv), State.newOwner_eq, hp, hold]
  · obtain ⟨x, hx⟩ := Option.ne_none_iff_exists'.mp ho
    have hxy : x ≠ f.source := fun e => hy (e ▸ hx)
    have hold : old = some x := (if_neg (by simp [hs])).trans hx
    rw [State.holderActs_claimant (hp ▸ hs) (hp ▸ hx) hxy (hp ▸ hc), State.newOwner_eq, hp, hold]

/-! ### The owner -/

theorem State.holderActs_owner {s : State} {p : PointId} {y : Addr}
    (hs : (s.pt p).state = .mirror ∨ (s.pt p).state = .stale ∨ (s.pt p).state = .disputed)
    (ho : (s.pt p).owner = some y) (c : Carried) (loss : ClaimLoss) (fromOwner : State → State) :
    s.holderActs p y c loss fromOwner = fromOwner s := by
  rcases hs with h | h | h <;> simp only [State.holderActs, h, ho, if_true]

theorem newerThan_iff (g old : Generation) :
    newerThan g old = true ↔ 1 ≤ (g - old).toNat ∧ (g - old).toNat ≤ 32767 := by
  simp [newerThan]

section
variable {s : State} {p : PointId} {k : Nat} {v : Value}

theorem State.ownerPublishes_misfit (h : ¬ ((s.pt p).length = none ∨ (s.pt p).length = some k)) :
    s.ownerPublishes p k v = s.countRejected := by
  obtain ⟨hnone, hk⟩ := not_or.mp h
  exact if_pos ⟨Option.isSome_iff_ne_none.mpr hnone, hk⟩

variable (hfits : (s.pt p).length = none ∨ (s.pt p).length = some k)
include hfits

/-- A record with the recorded length is judged by its generation (R64, R65). -/
theorem State.ownerPublishes_fitting : s.ownerPublishes p k v =
    match (s.pt p).value with
    | none => (s.setPt p { (s.pt p).refreshed with length := some k, value := some v }).telling p
        [.pointChanged p v.generation]
    | some old =>
      if newerThan v.generation old.generation then
        (s.setPt p { (s.pt p).refreshed with length := some k, value := some v }).telling p
          [.pointChanged p v.generation]
      else if v.generation = old.generation then s.setPt p (s.pt p).refreshed
      else s.countOld := by
  have hno : ¬ ((s.pt p).length.isSome = true ∧ (s.pt p).length ≠ some k) := by
    rcases hfits with h | h <;> simp [h]
  rw [State.ownerPublishes, if_neg hno]
  rfl

theorem State.ownerPublishes_accepted
    (h : ∀ old, (s.pt p).value = some old → newerThan v.generation old.generation = true) :
    s.ownerPublishes p k v =
      (s.setPt p { (s.pt p).refreshed with length := some k, value := some v }).telling p
        [.pointChanged p v.generation] := by
  rw [State.ownerPublishes_fitting hfits]
  cases hold : (s.pt p).value with
  | none => rfl
  | some old => exact if_pos (h old hold)

/-- The same generation is no newer one. -/
theorem State.ownerPublishes_equal {old : Value} (hold : (s.pt p).value = some old)
    (h : v.generation = old.generation) : s.ownerPublishes p k v = s.setPt p (s.pt p).refreshed := by
  have hno : ¬ newerThan v.generation old.generation = true := by
    rw [newerThan_iff, h]
    simp
  rw [State.ownerPublishes_fitting hfits, hold]
  exact (if_neg hno).trans (if_pos h)

theorem State.ownerPublishes_older {old : Value} (hold : (s.pt p).value = some old)
    (h : v.generation ≠ old.generation) (hno : ¬ newerThan v.generation old.generation = true) :
    s.ownerPublishes p k v = s.countOld := by
  rw [State.ownerPublishes_fitting hfits, hold]
  exact (if_neg hno).trans (if_neg h)

end

/-- Settles O41: `State.ownerPublishes` and `State.ownerAsserts` case by case. -/
theorem ownerKeepsItsMirror : Obligations.OwnerKeepsItsMirror := by
  unfold Obligations.OwnerKeepsItsMirror
  intro s f rest p old owned t up rejected refreshed
  have hp : t.pt p = old := State.pt_itemTaken ..
  have hrejected : t.countRejected = rejected := rfl
  have hrefreshed : (t.pt p).refreshed = refreshed := congrArg PointRecord.refreshed hp
  refine ⟨fun g octets ht howned => ?_, fun o ht => ⟨fun hlength => ?_, fun hlo hhi howned => ?_⟩⟩
  · intro fitting newer
    have he : exec .publishRecord s =
        .next (t.ownerPublishes p octets.length { octets := octets, generation := g }) := by
      rw [exec_publishRecord_taking ht, State.publishRecord]
      exact congrArg _ (State.holderActs_owner (s := t) (hp ▸ howned.1) (hp ▸ howned.2) ..)
    have hfitting : ((t.pt p).length = none ∨ (t.pt p).length = some octets.length) ↔ fitting := by rw [hp]
    have hnewer (v : Value) : newerThan g v.generation = true ↔ newer v := newerThan_iff g v.generation
    rw [he]
    refine ⟨fun h => ?_, fun h hall => ?_, fun v h hv => ⟨fun hg => ?_, fun hg hno => ?_⟩⟩
    · rw [State.ownerPublishes_misfit (mt hfitting.mp h), hrejected]
    · rw [State.ownerPublishes_accepted (hfitting.mpr h) fun v hv => (hnewer v).mpr (hall v (hp ▸ hv)), hrefreshed]
    · rw [State.ownerPublishes_equal (hfitting.mpr h) (hp.symm ▸ hv) hg, hrefreshed]
    · rw [State.ownerPublishes_older (hfitting.mpr h) (hp.symm ▸ hv) hg (mt (hnewer v).mp hno)]
      rfl
  · rw [exec_assertHeard_taking ht, State.assertHeard, if_neg (by simp only [Config.valueMax]; omega)]
    rfl
  · have he : exec .assertHeard s = .next (t.ownerAsserts p o.toNat) := by
      rw [exec_assertHeard_taking ht, State.assertHeard, if_pos ⟨hlo, hhi⟩]
      exact congrArg _ (State.holderActs_owner (s := t) (hp ▸ howned.1) (hp ▸ howned.2) ..)
    rw [he, State.ownerAsserts, hp]
    refine ⟨fun h => congrArg _ (if_pos (Option.isNone_iff_eq_none.mpr h)), fun h => congrArg _ (if_neg ?_)⟩
    exact mt Option.isNone_iff_eq_none.mp h

end Sys2Proof.Machine
end

section
/-! SUPPORT. The timers of a point (O48). -/

namespace Sys2Proof.Machine

theorem exec_claimWindowExpiry (p : PointId) (s : State) :
    exec (.claimWindowExpiry p) s = .next (s.claimWindowExpires p) := rfl
theorem exec_refreshTimerExpiry (p : PointId) (s : State) :
    exec (.refreshTimerExpiry p) s = .next (s.refreshExpires p) := rfl
theorem exec_staleTimerExpiry (p : PointId) (s : State) :
    exec (.staleTimerExpiry p) s = .next (s.staleExpires p) := rfl
theorem exec_contenderTimerExpiry (p : PointId) (s : State) :
    exec (.contenderTimerExpiry p) s = .next (s.contenderExpires p) := rfl

section
variable {s : State} {p : PointId}

/-- A claim that is won (R34). -/
theorem State.claimWindowExpires_due (hst : s.station = .active) (hr : (s.pt p).state = .claiming)
    (hd : timerReached (s.pt p).claimWindow s.period = true) :
    s.claimWindowExpires p = { s.setPt p ((s.pt p).won s.own) with
      heldCount := s.heldCount + 1
      claimingCount := s.claimingCount - 1
      tx := { s.tx with publish := if p ∈ s.tx.publish then s.tx.publish else s.tx.publish ++ [p] }
      events := s.events.offer (.claimWon p) } := by
  rw [State.claimWindowExpires, if_pos ⟨hst, hr, hd⟩]
  dsimp only
  rw [Scheduler.publishId_eq]
  rfl

/-- The id of a HELD point is due on the publish list (R16). -/
theorem State.refreshExpires_active (hst : s.station = .active) (hr : (s.pt p).state = .held)
    (hd : timerReached (s.pt p).refreshTimer s.period = true) :
    s.refreshExpires p = { s.setPt p { s.pt p with refreshTimer := none } with
      tx := { s.tx with publish := if p ∈ s.tx.publish then s.tx.publish else s.tx.publish ++ [p] } } := by
  simp only [State.refreshExpires, if_pos (And.intro hr hd), hst, State.appendPublish, Scheduler.publishId_eq]
  rfl

theorem State.refreshExpires_detached (hst : s.station = .detached) (hr : (s.pt p).state = .held)
    (hd : timerReached (s.pt p).refreshTimer s.period = true) :
    s.refreshExpires p = s.setPt p { s.pt p with refreshTimer := none } := by
  simp only [State.refreshExpires, if_pos (And.intro hr hd), hst]

theorem State.staleExpires_due {x : Addr} (hruns : s.mirrorTimersRun = true)
    (hr : (s.pt p).state = .mirror ∨ (s.pt p).state = .disputed)
    (hd : timerReached (s.pt p).staleTimer (3 * s.period) = true) (ho : (s.pt p).owner = some x) :
    s.staleExpires p = s.goStale p x := by
  simp only [State.staleExpires, if_pos (And.intro hruns (And.intro hr hd)), ho]

end

/-- Settles O48: a timer below its limit guards each expiry; a due one has the effect of its rule. -/
theorem pointTimersExpire : Obligations.PointTimersExpire := by
  unfold Obligations.PointTimersExpire
  intro s p r due listed runs
  have hdue (timer : Option Nat) (limit : Nat) : timerReached timer limit = true ↔ due timer limit :=
    timerReached_iff timer limit
  have hruns : s.mirrorTimersRun = true ↔ runs := s.mirrorTimersRun_iff
  rw [exec_claimWindowExpiry, exec_refreshTimerExpiry, exec_staleTimerExpiry, exec_contenderTimerExpiry]
  refine ⟨fun hst hr hd v hv => ?_, fun hst hr hd => ?_, fun hst hr hd => ?_, fun x hrun hr hd ho => ?_,
    fun hrun hr hd => ?_, fun hd => ?_, fun hd => ?_, fun hd => ?_, fun hd => ?_⟩
  · have hwon : (s.pt p).value.map (fun w => { w with generation := 0 }) =
        some { octets := v.octets, generation := 0 } := congrArg _ hv
    rw [State.claimWindowExpires_due hst hr ((hdue _ _).mpr hd), PointRecord.won, hwon]
  · rw [State.refreshExpires_active hst hr ((hdue _ _).mpr hd)]
  · rw [State.refreshExpires_detached hst hr ((hdue _ _).mpr hd)]
  · rw [State.staleExpires_due (hruns.mpr hrun) hr ((hdue _ _).mpr hd) ho, State.goStale, State.offerPoint_eq_telling]
    rfl
  · rw [State.contenderExpires, if_pos ⟨hruns.mpr hrun, hr, (hdue _ _).mpr hd⟩]
    rfl
  · rw [State.claimWindowExpires, if_neg fun ⟨_, _, h⟩ => hd ((hdue _ _).mp h)]
  · rw [State.refreshExpires, if_neg fun ⟨_, h⟩ => hd ((hdue _ _).mp h)]
  · rw [State.staleExpires, if_neg fun ⟨_, _, h⟩ => hd ((hdue _ _).mp h)]
  · rw [State.contenderExpires, if_neg fun ⟨_, _, h⟩ => hd ((hdue _ _).mp h)]

end Sys2Proof.Machine
end
